-- ==== Sys2Proof/Word.lean ====
section
/-! DEFINITION. The plain word types of W2BE (spec/00_scope.md R22, R23). -/

namespace Sys2Proof

/-- `u8`: a channel value, a frame byte, an opcode (R23). -/
abbrev Byte := BitVec 8

/-- A word of a request or response message (R84, R91). -/
abbrev Word := BitVec 32

/-- A request or response message: a list of 32-bit words (R84, R91). The empty list is admitted, since R95 says how a
request that is empty is answered. -/
abbrev Message := List Word

end Sys2Proof
end

