-- ==== Sys2Proof/Config.lean ====
section
/-! DEFINITION. What an instance of the block fixes (spec/00_scope.md R12 to R21, spec/10_state.md R32 to R37), the data
types its parameters need, and the free values of the model: constants without a body, of which no proof knows a value. -/

namespace Sys2Proof

/-- A Color `(r, g, b)` in control-surface order (R23, R79). -/
structure Color where
  r : Byte
  g : Byte
  b : Byte
deriving DecidableEq, Repr, Inhabited

/-- The two forms of a strip state (R42). -/
inductive StripState where
  /-- "all N LEDs share one color" -/
  | uniform (c : Color)
  /-- "each LED independently set", LED 0 first -/
  | addressable (pix : List Color)
deriving DecidableEq, Repr

/-- The answer of a call of the Bus Transport (R152). -/
inductive Verdict where
  | ok
  | error
deriving DecidableEq, Repr, Inhabited

/-- The order of the four bytes of a word on a byte-wide link (R21). -/
inductive ByteOrder where
  | big
  | little
deriving DecidableEq, Repr

/-- The parameters of the block. `n` to `sweepDelayUs` are the configuration registers CFG_* (R32 to R37), latched when
reset is applied and never written afterwards (R38); the last four are parameters without a register. They stand in
State, so that a statement about every state is a statement about every configuration. The legal values (R39) are checked
by `Machine.legalConfig`. -/
structure Config where
  /-- CFG_N, the LED count (R12, R32) -/
  n : Nat
  /-- CFG_P, the preamble length in bytes (R14, R33) -/
  p : Nat
  /-- CFG_CLK_HZ, the serial clock rate (R15, R34) -/
  clkHz : Nat
  /-- CFG_DEFAULT_BRIGHTNESS, the boot sweep's brightness (R16, R35) -/
  defaultBrightness : Nat
  /-- CFG_BUS_ID (R17, R36) -/
  busId : Nat
  /-- CFG_DEVICE_ID (R17, R36) -/
  deviceId : Nat
  /-- CFG_BOOT_SWEEP (R18, R37) -/
  bootSweep : Bool
  /-- CFG_SWEEP_DELAY_US (R18, R37) -/
  sweepDelayUs : Nat
  /-- N_MAX, the largest LED count of the strip buffers (R13) -/
  nMax : Nat
  /-- NREQ, the number of requesters (R19) -/
  nreq : Nat
  /-- INIT_STATE, the committed state after reset (R20) -/
  initState : StripState
  /-- LINK_BYTE_ORDER (R21) -/
  linkByteOrder : ByteOrder
deriving DecidableEq, Repr

/-- The configuration of `State.reset`. P and CLK_HZ are the spec's defaults (R14, R15); the spec gives no value for the
others, and these are the model's (DESIGN CHOICE, unsafe, log 1). Statements quantify over every configuration instead. -/
def Config.standard : Config where
  n := 8
  p := 3
  clkHz := 2400000
  defaultBrightness := 0
  busId := 0
  deviceId := 0
  bootSweep := false
  sweepDelayUs := 0
  nMax := 2147483647
  nreq := 1
  initState := .uniform ⟨0, 0, 0⟩
  linkByteOrder := .big

/-- FREE VALUE: the verdict of the k-th free draw (R152: "a model leaves them free, under no law"; log 3). -/
opaque Config.freeVerdict : Nat → Verdict

/-- FREE VALUE: the opaque handle a successful `open` returns (R46, R137; log 3). -/
opaque Config.freeHandle : Nat → Nat

/-- FREE VALUE: the arbiter's choice among several pending requests (R68; log 5). -/
opaque Config.freePick : Nat → Nat

end Sys2Proof
end

