-- ==== Sys2Proof/Machine/State.lean ====
section
/-! DEFINITION. The state of the block as plain data (spec/10_state.md), the reasons a step stops, and the state right
after reset. -/

namespace Sys2Proof.Machine

/-- PHASE (R30). -/
inductive Phase where
  /-- the reset sequence is to run; no request is served -/
  | init
  /-- no request is in service -/
  | ready
  /-- one request is in service and holds the block exclusively; inside a step only (R63, R69) -/
  | busy
  /-- the transport could not be opened; sticky until reset -/
  | failed
  /-- SHUTDOWN has released the transport; sticky until reset -/
  | halted
deriving DecidableEq, Repr

/-- HANDLE (R46). -/
inductive Handle where
  | closed
  | opened (h : Nat)
deriving DecidableEq, Repr

/-- DISPLAY, ghost: the colors the physical LEDs show (R48). -/
inductive Display where
  | known (s : List Color)
  | unknown
deriving DecidableEq, Repr

/-- An entry of TRACE, ghost: one call of the Bus Transport (R49). -/
inductive TransportCall where
  /-- `Open(bus_id, device_id, verdict)` -/
  | openBus (busId deviceId : Nat) (verdict : Verdict)
  /-- `SetClock(hz)` -/
  | setClock (hz : Nat)
  /-- `Tx(bytes, verdict)` -/
  | tx (bytes : List Byte) (verdict : Verdict)
  /-- `Close(verdict)` -/
  | close (verdict : Verdict)
deriving DecidableEq, Repr

/-- The channel's two slots of one requester (R50). -/
structure Slot where
  /-- PENDING[q] -/
  pending : Option Message
  /-- REPLY[q] -/
  reply : Option Message
deriving DecidableEq, Repr

/-- A requester's slots at reset (R50). -/
def Slot.empty : Slot := ⟨none, none⟩

/-- What happens next around the block, and when the block itself has a turn (R157, R68; log 4). -/
inductive Move where
  /-- requester q submits a request (R50) -/
  | submit (q : Nat) (msg : Message)
  /-- requester q takes its reply out of its slot (R50) -/
  | collect (q : Nat)
  /-- the platform applies reset with these configuration inputs (R161, R169) -/
  | reset (c : Config)
  /-- the block has a turn; if it takes a request, the arbiter's choice may be given (R68) -/
  | block (pick : Option Nat)
deriving DecidableEq, Repr

/-- The state. The first nine fields are the spec's, `slots` is its request channel, the others are the model's own. -/
@[ext]
structure State where
  /-- PHASE (R30, R31) -/
  phase : Phase
  /-- the configuration registers CFG_* (R32 to R37) and the parameters without a register (R13, R19 to R21) -/
  cfg : Config
  /-- COMMITTED (R44) -/
  committed : StripState
  /-- STAGE (R45) -/
  stage : Option StripState
  /-- HANDLE (R46) -/
  handle : Handle
  /-- INIT_FAULT (R47) -/
  initFault : Bool
  /-- DISPLAY, ghost (R48) -/
  display : Display
  /-- TRACE, ghost, oldest first (R49) -/
  trace : List TransportCall
  /-- PENDING[q] and REPLY[q] for q in 0..NREQ-1 (R50) -/
  slots : List Slot
  /-- the requester whose request is in service, to whom Respond sends (R25; log 7) -/
  serving : Option Nat
  /-- ghost: the least time, in microseconds, that sweeps have waited between steps since reset (R136; log 9) -/
  waitedUs : Nat
  /-- how many free values have been drawn (log 3, log 5) -/
  draws : Nat
  /-- the transport's next answers, so far as they are fixed; free after them (R152; log 3) -/
  answers : List Verdict
  /-- what happens next around the block; when empty, the block has the turn (log 4) -/
  moves : List Move
deriving DecidableEq, Repr

/-- Why the machine stops. Both are raised only in states no run reaches (Sys2Proof/Safety.lean). -/
inductive Fault where
  /-- Raised by the block's turn at PHASE = BUSY between two steps. Service is one indivisible step (R63), so no run rests
  there and the spec says nothing of how to go on. Safe. -/
  | busyAtRest
  /-- Raised by SET_ALL, SET_ONE, SWEEP and SHUTDOWN at PHASE = READY with HANDLE = Closed when they must call the
  transport: `transmit(h, bytes)` stands for a call "with HANDLE = Open(h)" (R153, R140). Safe. -/
  | transportClosed
deriving DecidableEq, Repr

/-- What the model gives no step to. -/
inductive Refusal where
  /-- Raised by an arm of `exec` whose instruction has no meaning yet: none. Safe. -/
  | notModelled (mnemonic : String)
  /-- Raised by reset, and by the reset sequence, with a configuration outside the legal values: "A model refuses such a
  configuration" (R39). Safe. -/
  | illegalConfiguration
  /-- Raised by a submission while the requester's slots are not both empty: "a model gives that submission no step"
  (R168). Safe. -/
  | submissionHasNoStep
  /-- Raised by a requester's move whose number is not in 0..NREQ-1: there is no such agent (R157). Safe. -/
  | noSuchRequester
deriving DecidableEq, Repr

/-- The state when reset is applied with configuration inputs `c`: the table of 10_state.md section 10 (R161). -/
def State.resetWith (c : Config) : State where
  phase := .init
  cfg := c
  committed := c.initState
  stage := none
  handle := .closed
  initFault := false
  display := .unknown
  trace := []
  slots := List.replicate c.nreq Slot.empty
  serving := none
  waitedUs := 0
  draws := 0
  answers := []
  moves := []

/-- The machine right after reset, with the configuration of log 1. -/
def State.reset : State :=
  State.resetWith Config.standard

end Sys2Proof.Machine
end

