-- ==== Sys2Proof/Machine/Codec.lean ====
section
/-! DEFINITION. The pure functions of the core: the Bit Codec (spec/41_bit_codec.md), the Frame Encoder with its byte
packer and preamble (spec/42_frame_encoder.md), and the readings of a strip state (spec/10_state.md R42, R43). -/

namespace Sys2Proof.Machine

/-- The symbol of one data bit (R101). -/
def encBit (b : Bool) : BitVec 3 :=
  if b then 0b110 else 0b100

/-- The channel encoding of a channel value: its 8 symbols, most significant bit first (R102; 8 symbols, not 9:
90_conflicts.md C1). -/
def encByte (v : Byte) : BitVec 24 :=
  encBit (v.getLsbD 7) ++ encBit (v.getLsbD 6) ++ encBit (v.getLsbD 5) ++ encBit (v.getLsbD 4) ++
    encBit (v.getLsbD 3) ++ encBit (v.getLsbD 2) ++ encBit (v.getLsbD 1) ++ encBit (v.getLsbD 0)

/-- SYMTAB: the read-only table of 256 channel encodings (R40, R108; log 8). -/
def symtab : List (BitVec 24) :=
  (List.range 256).map fun v => encByte (BitVec.ofNat 8 v)

/-- `SYMTAB[v]` (R40). -/
def symtabAt (v : Byte) : BitVec 24 :=
  symtab.getD v.toNat 0

/-- An entry of SYMTAB as a data word: `zext_32(SYMTAB[v])` (R93). -/
def symtabWord (v : Byte) : Word :=
  (symtabAt v).setWidth 32

/-- The wire order of a color's channels: green, red, blue (R110). -/
def wire (c : Color) : Byte × Byte × Byte :=
  (c.g, c.r, c.b)

/-- The encoding of one LED (R111). -/
def encPixel (c : Color) : BitVec 72 :=
  match wire c with
  | (x0, x1, x2) => encByte x0 ++ encByte x1 ++ encByte x2

/-- The bits of a value, most significant first (R22). -/
def bitsMsb {w : Nat} (x : BitVec w) : List Bool :=
  (List.range w).map fun t => x.getMsbD t

/-- The flat bit sequence of a strip: LED 0 first, each LED most significant bit first (R112). -/
def stripBits (s : List Color) : List Bool :=
  s.flatMap fun c => bitsMsb (encPixel c)

/-- Up to 8 bits read as a number, the first bit most significant (R114). -/
def byteOfBits (bs : List Bool) : Byte :=
  bs.foldl (fun acc b => (acc <<< 1) ||| (BitVec.ofBool b).setWidth 8) 0

/-- The byte packer: 8 bits a byte, first bit in bit 7; an incomplete last byte is left-justified, its low bits zero
(R113, R114). -/
def pack : List Bool → List Byte
  | b7 :: b6 :: b5 :: b4 :: b3 :: b2 :: b1 :: b0 :: rest =>
    byteOfBits [b7, b6, b5, b4, b3, b2, b1, b0] :: pack rest
  | [] => []
  | bs => [byteOfBits bs <<< (8 - bs.length)]

/-- The preamble: P bytes of 0x00 (R116). -/
def preamble (p : Nat) : List Byte :=
  List.replicate p 0

/-- The frame of a strip: the preamble, then the packed bits, and nothing after them (R117; 90_conflicts.md C5). -/
def encFrame (p : Nat) (s : List Color) : List Byte :=
  preamble p ++ pack (stripBits s)

/-- The LED colors a strip state stands for, with N LEDs (R43). -/
def leds (n : Nat) : StripState → List Color
  | .uniform c => List.replicate n c
  | .addressable pix => pix

/-- A strip state is well formed when its addressable form has exactly N colors (R42). -/
def stripWellFormed (n : Nat) : StripState → Bool
  | .uniform _ => true
  | .addressable pix => pix.length == n

/-- Black, the color of an LED that is off (R135). -/
def black : Color := ⟨0, 0, 0⟩

/-- The state step i of a sweep stages: all LEDs off but LED i, which is white at brightness b (R135). -/
def sweepState (n i : Nat) (b : Byte) : StripState :=
  .addressable ((List.replicate n black).set i ⟨b, b, b⟩)

/-- A color word: bits 31..24 = 0, then r, g, b (R94). -/
def colorWord (c : Color) : Word :=
  (0 : Byte) ++ c.r ++ c.g ++ c.b

/-- The data words of GET_STATE: MODE, K, then K color words (R93, R134). -/
def stateWords (n : Nat) : StripState → List Word
  | .uniform c => [0, 1, colorWord c]
  | .addressable pix => 1 :: BitVec.ofNat 32 n :: pix.map colorWord

end Sys2Proof.Machine
end

