-- ==== Sys2Proof/Machine/Flags.lean ====
section
/-! DEFINITION. The outcome of a request. The block has no condition codes (spec/10_state.md R29): a request's outcome is
the STATUS field of its response header (spec/30_encoding.md R91, R92). -/

namespace Sys2Proof.Machine

/-- The STATUS values of R92. -/
inductive Status where
  | ok
  | eValidation
  | eTransport
  | eIllegal
  | eInit
  | eHalted
deriving DecidableEq, Repr

/-- The STATUS numbers of R92. -/
def statusByte : Status → Byte
  | .ok => 0x00
  | .eValidation => 0x01
  | .eTransport => 0x02
  | .eIllegal => 0x03
  | .eInit => 0x04
  | .eHalted => 0x05

/-- The status a request whose transport calls ended with this verdict reports (R132, R140). -/
def verdictStatus : Verdict → Status
  | .ok => .ok
  | .error => .eTransport

/-- A response header: OPCODE in bits 31:24, 0 in bits 23:8, STATUS in bits 7:0 (R91). -/
def header (op : Byte) (st : Status) : Word :=
  op ++ (0 : BitVec 16) ++ statusByte st

/-- A response message: the header, then the data words (R91). -/
def response (op : Byte) (st : Status) (ws : List Word) : Message :=
  header op st :: ws

end Sys2Proof.Machine
end

