-- ==== Sys2Proof/Machine/Operands.lean ====
section
/-! DEFINITION. Operand assembly: the clamp of a channel operand, the index check, and the saturation a host applies
(spec/30_encoding.md R87 to R90). The operand words themselves are read by Sys2Proof/Decode.lean. -/

namespace Sys2Proof.Machine

/-- `clamp8` (R88): "out-of-range inputs are clamped, never rejected". -/
def clamp8 (x : Int) : Byte :=
  if x < 0 then 0
  else if 255 < x then 255
  else BitVec.ofInt 8 x

/-- Three channel operands clamped one by one to a Color (R88, R124, R132). -/
def clampColor (r g b : Int) : Color :=
  ⟨clamp8 r, clamp8 g, clamp8 b⟩

/-- An index operand is valid when `0 <= i` and `i < N`, compared as signed integers (R90). -/
def indexValid (n : Nat) (index : Int) : Bool :=
  decide (0 ≤ index) && decide (index < (n : Int))

/-- `sat32`: the nearest s32 to an unbounded integer, which a host sends for it (R89). -/
def sat32 (y : Int) : Int :=
  if y < -2147483648 then -2147483648
  else if 2147483647 < y then 2147483647
  else y

end Sys2Proof.Machine
end

