-- ==== Sys2Proof/Machine/Ops.lean ====
section
/-! DEFINITION. The named updates of State, and the operations every request shares: the response (the block's one form
of reporting an error; it has no traps, spec/60_exceptions.md R149), the service procedure with its phase check (R147),
the transport's calls (R152, R153) and the transaction (spec/43_strip_transactions.md R125 to R127). -/

namespace Sys2Proof.Machine

/-! ## Updates of one field -/

/-- `PHASE <- p`. -/
def State.setPhase (p : Phase) (s : State) : State := { s with phase := p }

/-- `COMMITTED <- st`. -/
def State.setCommitted (st : StripState) (s : State) : State := { s with committed := st }

/-- `STAGE <- st`, empty when `none`. -/
def State.setStage (st : Option StripState) (s : State) : State := { s with stage := st }

/-- `HANDLE <- h`. -/
def State.setHandle (h : Handle) (s : State) : State := { s with handle := h }

/-- `INIT_FAULT <- b`. -/
def State.setInitFault (b : Bool) (s : State) : State := { s with initFault := b }

/-- `DISPLAY <- d`. -/
def State.setDisplay (d : Display) (s : State) : State := { s with display := d }

/-- TRACE gains one entry, at its end (R49). -/
def State.record (c : TransportCall) (s : State) : State := { s with trace := s.trace ++ [c] }

/-- The slots of the request channel (R50). -/
def State.setSlots (xs : List Slot) (s : State) : State := { s with slots := xs }

/-- Requester q's slots become `x` (R50). -/
def State.setSlot (q : Nat) (x : Slot) (s : State) : State := { s with slots := s.slots.set q x }

/-- The requester in service. -/
def State.setServing (q : Option Nat) (s : State) : State := { s with serving := q }

/-- The block waits at least `us` microseconds (R136; timing only, log 9). -/
def State.wait (us : Nat) (s : State) : State := { s with waitedUs := s.waitedUs + us }

/-- One more free value has been drawn. -/
def State.bumpDraws (s : State) : State := { s with draws := s.draws + 1 }

/-- The moves still to come. -/
def State.setMoves (ms : List Move) (s : State) : State := { s with moves := ms }

/-! ## The request channel (R50) -/

/-- Requester q's slots. -/
def slotAt (q : Nat) (s : State) : Slot :=
  s.slots.getD q Slot.empty

/-- The slots once the request in service has left PENDING. -/
def takenSlots (serving : Option Nat) (slots : List Slot) : List Slot :=
  match serving with
  | none => slots
  | some q => slots.set q { slots.getD q Slot.empty with pending := none }

/-- The slots once a response has been sent to the requester in service. -/
def repliedSlots (serving : Option Nat) (msg : Message) (slots : List Slot) : List Slot :=
  match serving with
  | none => slots
  | some q => slots.set q { slots.getD q Slot.empty with reply := some msg }

/-- The request in service leaves PENDING: "`PENDING[q]` is emptied when the request is taken" (R147). -/
def takeRequest (s : State) : State :=
  s.setSlots (takenSlots s.serving s.slots)

/-- `Respond(status, words)` (R25, R91): the message goes to REPLY of the requester in service, STAGE is emptied (R45) and
no request is in service any more. -/
def respond (op : Byte) (st : Status) (ws : List Word) (s : State) : State :=
  ((s.setSlots (repliedSlots s.serving (response op st ws) s.slots)).setStage none).setServing none

/-- `Respond`, after which PHASE is `p` (R31, R147). -/
def complete (op : Byte) (st : Status) (ws : List Word) (p : Phase) (s : State) : State :=
  (respond op st ws s).setPhase p

/-- `raise E_X`: an error answer with no data words and no other effect, after which the block is READY again (R25, R149,
R150). The one operation by which a request in service reports an error it has met before any transport call. -/
def raiseError (op : Byte) (e : Status) (s : State) : State :=
  complete op e [] .ready s

/-- The service procedure (R147) around a request's own rule `body`: in FAILED and HALTED the request is answered with
E_INIT or E_HALTED and PHASE stays; in READY it is taken, PHASE becomes BUSY and `body` runs; in INIT and BUSY no request
is taken, and it waits (R31, R167). -/
def serve (op : Byte) (body : State → Host.Outcome State Fault Refusal) (s : State) :
    Host.Outcome State Fault Refusal :=
  match s.phase with
  | .failed => .next (respond op .eInit [] (takeRequest s))
  | .halted => .next (respond op .eHalted [] (takeRequest s))
  | .ready => body ((takeRequest s).setPhase .busy)
  | .init => .next s
  | .busy => .next s

/-! ## The Bus Transport (R152) -/

/-- The next verdict of the transport: the next scripted answer, else a free value (R152; log 3). -/
def nextVerdict (s : State) : Verdict :=
  match s.answers with
  | v :: _ => v
  | [] => Config.freeVerdict s.draws

/-- The count of free values once the next verdict has been given: one more if the script is at its end. -/
def drawsAfter (answers : List Verdict) (draws : Nat) : Nat :=
  match answers with
  | _ :: _ => draws
  | [] => draws + 1

/-- The state once the next verdict has been given. -/
def dropVerdict (s : State) : State :=
  { s with answers := s.answers.tail, draws := drawsAfter s.answers s.draws }

/-- The k-th verdict from now on, k = 0 the next. -/
def upcomingVerdict (s : State) (k : Nat) : Verdict :=
  match s.answers[k]? with
  | some v => v
  | none => Config.freeVerdict (s.draws + (k - s.answers.length))

/-- A request's rule that goes on to call the transport if `calls`: it needs an open HANDLE then (R153, R140). -/
def onTransport (calls : Bool) (k : State → State) (s : State) : Host.Outcome State Fault Refusal :=
  match calls, s.handle with
  | true, .closed => .fault .transportClosed
  | _, _ => .next (k s)

/-- `Transmit(bytes)`: one call, recorded in TRACE with its whole byte list and its verdict (R153). -/
def transmit (bytes : List Byte) (s : State) : Verdict × State :=
  (nextVerdict s, (dropVerdict s).record (.tx bytes (nextVerdict s)))

/-! ## The transaction -/

/-- `Commit()` (R126): `COMMITTED <- STAGE` and `DISPLAY <- Known(leds(STAGE))`. -/
def commit (s : State) : State :=
  match s.stage with
  | none => s
  | some st => (s.setCommitted st).setDisplay (.known (leds s.cfg.n st))

/-- `Rollback()` (R127): COMMITTED stays, `DISPLAY <- Unknown`. -/
def rollback (s : State) : State :=
  s.setDisplay .unknown

/-- `Commit` or `Rollback`, as the verdict says (R125). -/
def settle (v : Verdict) (s : State) : State :=
  match v with
  | .ok => commit s
  | .error => rollback s

/-- `Transaction(new)` (R125): stage, encode, transmit once, commit or roll back, empty STAGE. -/
def transaction (new : StripState) (s : State) : Verdict × State :=
  match transmit (encFrame s.cfg.p (leds s.cfg.n new)) (s.setStage (some new)) with
  | (v, t) => (v, (settle v t).setStage none)

/-- A request whose transport calls ended with a verdict answers OK or E_TRANSPORT and the block is READY (R132). -/
def answerVerdict (op : Byte) (r : Verdict × State) : State :=
  complete op (verdictStatus r.1) [] .ready r.2

/-- The wait before step i of a sweep: none before step 0 (R136). -/
def sweepWait (i delayUs : Nat) (s : State) : State :=
  if i = 0 then s else s.wait delayUs

/-- The steps of a sweep with the given LED numbers: each is a transaction, and the first Error ends it (R136). -/
def sweepSteps (b : Byte) (delayUs : Nat) : List Nat → State → Verdict × State
  | [], s => (.ok, s)
  | i :: rest, s =>
    match transaction (sweepState s.cfg.n i b) (sweepWait i delayUs s) with
    | (.ok, t) => sweepSteps b delayUs rest t
    | (.error, t) => (.error, t)

/-- A whole sweep: steps 0 to N-1 (R136; 90_conflicts.md C7). -/
def runSweep (b : Byte) (delayUs : Nat) (s : State) : Verdict × State :=
  sweepSteps b delayUs (List.range s.cfg.n) s

end Sys2Proof.Machine
end

