-- ==== Sys2Proof/Machine/Channel.lean ====
section
/-! DEFINITION. The request channel: a requester submits and collects, the arbiter chooses among the pending requests
(spec/10_state.md R50, spec/20_memory.md R68, spec/70_reset_and_hazards.md R168). -/

namespace Sys2Proof.Machine

/-- Requester q submits a request: only when both of its slots are empty (R50, R168). -/
def submit (q : Nat) (msg : Message) (s : State) : Host.Outcome State Fault Refusal :=
  if q < s.slots.length then
    if slotAt q s = Slot.empty then .next (s.setSlot q ⟨some msg, none⟩)
    else .refused .submissionHasNoStep
  else .refused .noSuchRequester

/-- Requester q takes its reply out of its slot, so that it may submit again (R50; log 7); with none there it goes on
waiting. -/
def collect (q : Nat) (s : State) : Host.Outcome State Fault Refusal :=
  if q < s.slots.length then .next (s.setSlot q { slotAt q s with reply := none })
  else .refused .noSuchRequester

/-- The requesters with a pending request, in the order of their numbers. -/
def pendingRequesters (s : State) : List Nat :=
  (List.range s.slots.length).filter fun q => (slotAt q s).pending.isSome

/-- The arbiter's own choice among several requesters: a free value (R68; log 5). -/
def freeChoice (qs : List Nat) (s : State) : Nat × State :=
  (qs.getD (Config.freePick s.draws % qs.length) 0, s.bumpDraws)

/-- The requester the block takes next (R68): the only one with a pending request, else the one the move names if its
request is pending, else a free choice. -/
def arbiter (pick : Option Nat) (s : State) : Option (Nat × State) :=
  match pendingRequesters s with
  | [] => none
  | [q] => some (q, s)
  | qs =>
    match pick with
    | none => some (freeChoice qs s)
    | some q => if qs.contains q then some (q, s) else some (freeChoice qs s)

end Sys2Proof.Machine
end

