-- ==== Sys2Proof/Syntax.lean ====
section
/-! DEFINITION. The requests of the block (spec/30_encoding.md R85, spec/opcode_table.json): one constructor per row. -/

namespace Sys2Proof

/-- The opcodes of R85. -/
inductive Opcode where
  | encByte
  | encPixel
  | setAll
  | setOne
  | getState
  | sweep
  | shutdown
deriving DecidableEq, Repr

/-- The request formats of R86, named by their operand count. -/
inductive Format where
  | f0
  | f1
  | f2
  | f3
  | f4
deriving DecidableEq, Repr

/-- A request. An operand is the integer its word is read as (R87): an s32, but SWEEP's delay a u32. -/
inductive Instr where
  /-- ENC_BYTE v (R109) -/
  | encByte (v : Int)
  /-- ENC_PIXEL r, g, b (R124) -/
  | encPixel (r g b : Int)
  /-- SET_ALL r, g, b (R132) -/
  | setAll (r g b : Int)
  /-- SET_ONE index, r, g, b (R133) -/
  | setOne (index r g b : Int)
  /-- GET_STATE (R134) -/
  | getState
  /-- SWEEP brightness, delay_us (R136) -/
  | sweep (brightness : Int) (delayUs : Nat)
  /-- SHUTDOWN (R140) -/
  | shutdown
deriving DecidableEq, Repr

end Sys2Proof
end

