-- ==== Sys2Proof/WellFormed.lean ====
section
/-! DEFINITION. A request is well formed when each operand lies in the range its word can carry (spec/30_encoding.md R87,
spec/00_scope.md R23; outside it is "an assembly error", R98). -/

namespace Sys2Proof

/-- `s32`: "a 32-bit two's-complement integer in [-2^31, 2^31-1]" (R23). -/
def inS32 (x : Int) : Bool :=
  decide (-2147483648 ≤ x) && decide (x ≤ 2147483647)

/-- `u32`: "an unsigned integer in [0, 2^32-1]" (R23). -/
def inU32 (x : Nat) : Bool :=
  decide (x ≤ 4294967295)

/-- Every operand fits its word (R87). -/
def Instr.wellFormed : Instr → Bool
  | .encByte v => inS32 v
  | .encPixel r g b => inS32 r && inS32 g && inS32 b
  | .setAll r g b => inS32 r && inS32 g && inS32 b
  | .setOne index r g b => inS32 index && inS32 r && inS32 g && inS32 b
  | .getState => true
  | .sweep brightness delayUs => inS32 brightness && inU32 delayUs
  | .shutdown => true

end Sys2Proof
end

