-- ==== Sys2Proof/Decode.lean ====
section
/-! DEFINITION. The opcode map, the decoder (total on any list of words, rejecting by name) and the encoder
(spec/30_encoding.md R84 to R87, R95, R97). -/

namespace Sys2Proof

/-- Why a request is malformed: the four items of R95. -/
inductive DecodeError where
  /-- item 1: the message is empty -/
  | emptyMessage
  /-- item 2: OPCODE is not in the map of R85 -/
  | unassignedOpcode
  /-- item 3: RSVD is not 0 -/
  | reservedBits
  /-- item 4: the length is not the one R85 fixes -/
  | wrongLength
deriving DecidableEq, Repr

/-- The OPCODE numbers of R85. -/
def opcodeByte : Opcode → Byte
  | .encByte => 0x01
  | .encPixel => 0x02
  | .setAll => 0x10
  | .setOne => 0x11
  | .getState => 0x12
  | .sweep => 0x13
  | .shutdown => 0x20

/-- The format column of R85. -/
def opcodeFormat : Opcode → Format
  | .encByte => .f1
  | .encPixel => .f3
  | .setAll => .f3
  | .setOne => .f4
  | .getState => .f0
  | .sweep => .f2
  | .shutdown => .f0

/-- The number of operand words of a format (R86). -/
def formatOperands : Format → Nat
  | .f0 => 0
  | .f1 => 1
  | .f2 => 2
  | .f3 => 3
  | .f4 => 4

/-- The length in words R85 fixes for an opcode. -/
def requestLength (op : Opcode) : Nat :=
  formatOperands (opcodeFormat op) + 1

/-- Every assigned opcode, in the order of R85. -/
def allOpcodes : List Opcode :=
  [.encByte, .encPixel, .setAll, .setOne, .getState, .sweep, .shutdown]

/-- The opcode an OPCODE field selects, if it is assigned (R85, R96). -/
def opcodeOfByte (b : Byte) : Option Opcode :=
  allOpcodes.find? fun op => opcodeByte op == b

/-- Bits 31:24 of a command word (R84). -/
def opcodeField (cmd : Word) : Byte :=
  cmd.extractLsb' 24 8

/-- Bits 23:0 of a command word (R84). -/
def reservedField (cmd : Word) : BitVec 24 :=
  cmd.extractLsb' 0 24

/-- The OPCODE a response header repeats: that of word 0, or 0x00 for an empty message (R91, R147). -/
def messageOpcode : Message → Byte
  | [] => 0
  | cmd :: _ => opcodeField cmd

/-- An operand word read as an s32 (R87). -/
def readS32 (w : Word) : Int :=
  w.toInt

/-- An operand word read as a u32 (R87: SWEEP's delay_us only). -/
def readU32 (w : Word) : Nat :=
  w.toNat

/-- The request an opcode makes of its operand words, if they are as many as its format has (R85, R86). -/
def decodeOperands (op : Opcode) (ws : List Word) : Option Instr :=
  match op with
  | .encByte =>
    match ws with
    | [v] => some (.encByte (readS32 v))
    | _ => none
  | .encPixel =>
    match ws with
    | [r, g, b] => some (.encPixel (readS32 r) (readS32 g) (readS32 b))
    | _ => none
  | .setAll =>
    match ws with
    | [r, g, b] => some (.setAll (readS32 r) (readS32 g) (readS32 b))
    | _ => none
  | .setOne =>
    match ws with
    | [index, r, g, b] => some (.setOne (readS32 index) (readS32 r) (readS32 g) (readS32 b))
    | _ => none
  | .getState =>
    match ws with
    | [] => some .getState
    | _ => none
  | .sweep =>
    match ws with
    | [brightness, delayUs] => some (.sweep (readS32 brightness) (readU32 delayUs))
    | _ => none
  | .shutdown =>
    match ws with
    | [] => some .shutdown
    | _ => none

/-- The format check and operand assembly of R95 and R87. -/
def decode : Message → Except DecodeError Instr
  | [] => .error .emptyMessage
  | cmd :: ws =>
    match opcodeOfByte (opcodeField cmd) with
    | none => .error .unassignedOpcode
    | some op =>
      if reservedField cmd = 0 then
        match decodeOperands op ws with
        | some i => .ok i
        | none => .error .wrongLength
      else .error .reservedBits

/-- The opcode of a request. -/
def instrOpcode : Instr → Opcode
  | .encByte _ => .encByte
  | .encPixel _ _ _ => .encPixel
  | .setAll _ _ _ => .setAll
  | .setOne _ _ _ _ => .setOne
  | .getState => .getState
  | .sweep _ _ => .sweep
  | .shutdown => .shutdown

/-- The command word of an opcode: OPCODE in bits 31:24, RSVD = 0 (R84). -/
def commandWord (op : Opcode) : Word :=
  opcodeByte op ++ (0 : BitVec 24)

/-- The word of an s32 operand. -/
def writeS32 (x : Int) : Word :=
  BitVec.ofInt 32 x

/-- The word of a u32 operand. -/
def writeU32 (x : Nat) : Word :=
  BitVec.ofNat 32 x

/-- The operand words of a request, in the order of R85. -/
def operandWords : Instr → List Word
  | .encByte v => [writeS32 v]
  | .encPixel r g b => [writeS32 r, writeS32 g, writeS32 b]
  | .setAll r g b => [writeS32 r, writeS32 g, writeS32 b]
  | .setOne index r g b => [writeS32 index, writeS32 r, writeS32 g, writeS32 b]
  | .getState => []
  | .sweep brightness delayUs => [writeS32 brightness, writeU32 delayUs]
  | .shutdown => []

/-- The message of a request (R84, R86). -/
def encode (i : Instr) : Message :=
  commandWord (instrOpcode i) :: operandWords i

/-- The words of a request whose bits are `w`, numbered as spec/opcode_table.json numbers them (word 0 lowest): as many
words as its opcode fixes, every bit above `nbits` zero. More than `nbits` asks for are never dropped, so that a message
that is too long is seen as such. -/
def tableMessage (nbits w : Nat) : Message :=
  let bits := w % 2 ^ nbits
  let len := match opcodeOfByte (opcodeField (BitVec.ofNat 32 bits)) with
    | some op => requestLength op
    | none => 1
  (List.range (max len ((nbits + 31) / 32))).map fun k => BitVec.ofNat 32 (bits >>> (32 * k))

/-- What the decoder reads from a row of spec/opcode_table.json (see `tableMessage`). -/
def decodeTableWord (nbits w : Nat) : Option Instr :=
  match decode (tableMessage nbits w) with
  | .ok i => some i
  | .error _ => none

end Sys2Proof
end

