-- ==== Sys2Proof/Machine/BitCodec.lean ====
section
/-! DEFINITION. The meaning of ENC_BYTE (spec/41_bit_codec.md). -/

namespace Sys2Proof.Machine

/-- ENC_BYTE v (R109): the encoding of the clamped operand. No state but the response is written, no transport call is
made. -/
def execEncByte (v : Int) (s : State) : Host.Outcome State Fault Refusal :=
  serve (opcodeByte .encByte)
    (fun t => .next (complete (opcodeByte .encByte) .ok [symtabWord (clamp8 v)] .ready t)) s

end Sys2Proof.Machine
end

