-- ==== Sys2Proof/Machine/FrameEncoder.lean ====
section
/-! DEFINITION. The meaning of ENC_PIXEL (spec/42_frame_encoder.md section 6). -/

namespace Sys2Proof.Machine

/-- The data words of ENC_PIXEL: the encodings of one LED's channels in wire order (R93, R124). -/
def pixelWords (c : Color) : List Word :=
  match wire c with
  | (x0, x1, x2) => [symtabWord x0, symtabWord x1, symtabWord x2]

/-- ENC_PIXEL r, g, b (R124): the three encodings in wire order g, r, b. No state but the response is written, no
transport call is made. -/
def execEncPixel (r g b : Int) (s : State) : Host.Outcome State Fault Refusal :=
  serve (opcodeByte .encPixel)
    (fun t => .next (complete (opcodeByte .encPixel) .ok (pixelWords (clampColor r g b)) .ready t)) s

end Sys2Proof.Machine
end

