-- ==== Sys2Proof/Machine/Lifecycle.lean ====
section
/-! DEFINITION. The meaning of SHUTDOWN (spec/44_lifecycle.md section 2). -/

namespace Sys2Proof.Machine

/-- `close(h)`: recorded in TRACE; the handle is released whatever the verdict (R140). -/
def closeTransport (s : State) : Verdict × State :=
  (nextVerdict s, ((dropVerdict s).record (.close (nextVerdict s))).setHandle .closed)

/-- The answer of SHUTDOWN, after which the block is HALTED (R140, R31). -/
def answerClose (op : Byte) (r : Verdict × State) : State :=
  complete op (verdictStatus r.1) [] .halted r.2

/-- SHUTDOWN (R140): close the transport once, answer OK or E_TRANSPORT, halt. -/
def execShutdown (s : State) : Host.Outcome State Fault Refusal :=
  serve (opcodeByte .shutdown)
    (onTransport true fun t => answerClose (opcodeByte .shutdown) (closeTransport t)) s

end Sys2Proof.Machine
end

