-- ==== Sys2Proof/Machine/StripTransactions.lean ====
section
/-! DEFINITION. The meanings of SET_ALL, SET_ONE, GET_STATE and SWEEP (spec/43_strip_transactions.md section 3). -/

namespace Sys2Proof.Machine

/-- SET_ALL r, g, b (R132): one transaction whose new state is `Uniform` of the clamped color (R130). -/
def execSetAll (r g b : Int) (s : State) : Host.Outcome State Fault Refusal :=
  serve (opcodeByte .setAll)
    (onTransport true fun t =>
      answerVerdict (opcodeByte .setAll) (transaction (.uniform (clampColor r g b)) t)) s

/-- The state SET_ONE stages: the committed LEDs with one of them set, always in the addressable form (R130, R131). -/
def setOneState (index : Nat) (c : Color) (s : State) : StripState :=
  .addressable ((leds s.cfg.n s.committed).set index c)

/-- SET_ONE index, r, g, b (R133): an invalid index is E_VALIDATION before any state or transport access; else one
transaction. -/
def execSetOne (index r g b : Int) (s : State) : Host.Outcome State Fault Refusal :=
  serve (opcodeByte .setOne)
    (fun t =>
      if indexValid t.cfg.n index then
        onTransport true
          (fun u => answerVerdict (opcodeByte .setOne)
            (transaction (setOneState index.toNat (clampColor r g b) u) u)) t
      else .next (raiseError (opcodeByte .setOne) .eValidation t)) s

/-- GET_STATE (R134): the committed state as mode, count and color words. No state but the response is written, no
transport call is made. -/
def execGetState (s : State) : Host.Outcome State Fault Refusal :=
  serve (opcodeByte .getState)
    (fun t => .next (complete (opcodeByte .getState) .ok (stateWords t.cfg.n t.committed) .ready t)) s

/-- SWEEP brightness, delay_us (R136): N transactions in one request; with N = 0 no transport call is made. -/
def execSweep (brightness : Int) (delayUs : Nat) (s : State) : Host.Outcome State Fault Refusal :=
  serve (opcodeByte .sweep)
    (fun t =>
      onTransport (t.cfg.n != 0)
        (fun u => answerVerdict (opcodeByte .sweep) (runSweep (clamp8 brightness) delayUs u)) t) s

end Sys2Proof.Machine
end

