-- ==== Sys2Proof/Machine/Dispatch.lean ====
section
/-! DEFINITION. One arm per request. -/

namespace Sys2Proof.Machine

/-- The service of one decoded request, for the requester that `serving` names. -/
def exec (i : Instr) (s : State) : Host.Outcome State Fault Refusal :=
  match i with
  | .encByte v => Sys2Proof.Machine.execEncByte v s
  | .encPixel r g b => Sys2Proof.Machine.execEncPixel r g b s
  | .setAll r g b => Sys2Proof.Machine.execSetAll r g b s
  | .setOne index r g b => Sys2Proof.Machine.execSetOne index r g b s
  | .getState => Sys2Proof.Machine.execGetState s
  | .sweep brightness delayUs => Sys2Proof.Machine.execSweep brightness delayUs s
  | .shutdown => Sys2Proof.Machine.execShutdown s

end Sys2Proof.Machine
end

