-- ==== Sys2Proof/Machine/Reset.lean ====
section
/-! DEFINITION. The legal configurations, applying reset, and the reset sequence with the boot sweep
(spec/10_state.md R39, spec/44_lifecycle.md R137 to R139, spec/70_reset_and_hazards.md R161, R162). -/

namespace Sys2Proof.Machine

/-- The legal configurations (R12 to R20, R32 to R37, R39). -/
def legalConfig (c : Config) : Bool :=
  decide (c.n ≤ c.nMax) && decide (c.nMax ≤ 2147483647) && decide (c.p ≤ 255) &&
    decide (1 ≤ c.clkHz) && decide (c.clkHz ≤ 4294967295) && decide (c.defaultBrightness ≤ 255) &&
    decide (c.sweepDelayUs ≤ 4294967295) && decide (1 ≤ c.nreq) && stripWellFormed c.n c.initState

/-- `open(CFG_BUS_ID, CFG_DEVICE_ID)`: recorded in TRACE; on Ok HANDLE holds the handle it returned (R137). -/
def openTransport (s : State) : Verdict × State :=
  let t := (dropVerdict s).record (.openBus s.cfg.busId s.cfg.deviceId (nextVerdict s))
  match nextVerdict s with
  | .ok => (.ok, (t.setHandle (.opened (Config.freeHandle t.draws))).bumpDraws)
  | .error => (.error, t)

/-- `set_clock_rate(h, CFG_CLK_HZ)`: recorded in TRACE; it cannot fail (R138). -/
def setClockRate (s : State) : State :=
  s.record (.setClock s.cfg.clkHz)

/-- The boot sweep, if the configuration asks for it; its verdict reaches no requester (R162). It runs in INIT, and each of
its transactions writes STAGE (R125), while R45 has STAGE non-empty only in BUSY: the model follows R162 and R125 and stages
in INIT, inside the one step of the reset sequence, after which STAGE is empty (DESIGN CHOICE, safe, log 16). -/
def bootSweep (s : State) : State :=
  if s.cfg.bootSweep then
    (runSweep (BitVec.ofNat 8 s.cfg.defaultBrightness) s.cfg.sweepDelayUs s).2
  else s

/-- The reset sequence (R161): to READY, or to FAILED with INIT_FAULT set if the transport cannot be opened (R139). -/
def resetSequence (s : State) : State :=
  match openTransport s with
  | (.error, t) => (t.setInitFault true).setPhase .failed
  | (.ok, t) => (bootSweep (setClockRate t)).setPhase .ready

/-- Reset is applied with configuration inputs `c` (R161): every field takes its reset value, and nothing is kept (R165)
but what is not the block's: the moves to come, the transport's answers to come and the count of free values drawn, so
that the next `open` is a new draw (R142). A handle that is open is not closed (R142). An illegal configuration is refused
(R39). -/
def applyReset (c : Config) (s : State) : Host.Outcome State Fault Refusal :=
  if legalConfig c then
    .next { State.resetWith c with draws := s.draws, answers := s.answers, moves := s.moves }
  else .refused .illegalConfiguration

end Sys2Proof.Machine
end

