-- ==== Sys2Proof/Machine/Service.lean ====
section
/-! DEFINITION. The block's turn: the reset sequence in INIT, else one whole request (spec/20_memory.md R63, R69,
spec/60_exceptions.md R147); and the moves of the outside world. -/

namespace Sys2Proof.Machine

/-- The service of a message taken for the requester in `serving`: its request if it is well formed, else E_ILLEGAL after
the phase check (R95, R147). -/
def serveMessage (msg : Message) (s : State) : Host.Outcome State Fault Refusal :=
  match decode msg with
  | .ok i => exec i s
  | .error _ =>
    serve (messageOpcode msg) (fun t => .next (raiseError (messageOpcode msg) .eIllegal t)) s

/-- The message the block takes from requester q. -/
def pendingMessage (q : Nat) (s : State) : Message :=
  (slotAt q s).pending.getD []

/-- The block takes one pending request, if there is one, and serves it whole (R69); with none it idles (R30). -/
def serveNext (pick : Option Nat) (s : State) : Host.Outcome State Fault Refusal :=
  match arbiter pick s with
  | none => .next s
  | some (q, t) => serveMessage (pendingMessage q t) (t.setServing (some q))

/-- One turn of the block. -/
def blockTurn (pick : Option Nat) (s : State) : Host.Outcome State Fault Refusal :=
  match s.phase with
  | .init => if legalConfig s.cfg then .next (resetSequence s) else .refused .illegalConfiguration
  | .busy => .fault .busyAtRest
  | .ready => serveNext pick s
  | .failed => serveNext pick s
  | .halted => serveNext pick s

/-- One move, made on the state without it. -/
def performMove (m : Move) (s : State) : Host.Outcome State Fault Refusal :=
  match m with
  | .submit q msg => submit q msg s
  | .collect q => collect q s
  | .reset c => applyReset c s
  | .block pick => blockTurn pick s

/-- The next move if there is one, else a turn of the block. -/
def advance (s : State) : Host.Outcome State Fault Refusal :=
  match s.moves with
  | [] => blockTurn none s
  | m :: ms => performMove m (s.setMoves ms)

/-- PHASE once the reset sequence has run without a failure, for a state that has not run it. -/
def bootedPhase : Phase → Phase
  | .init => .ready
  | .busy => .ready
  | .ready => .ready
  | .failed => .failed
  | .halted => .halted

/-- HANDLE once the reset sequence has run, for a state that has not run it. -/
def bootedHandle (s : State) : Handle :=
  match s.phase, s.handle with
  | .init, .closed => .opened (Config.freeHandle s.draws)
  | .busy, .closed => .opened (Config.freeHandle s.draws)
  | _, h => h

/-- `msg` stands in requester 0's PENDING slot and the very next step is the block's turn, in which it takes that
request: stands for the reset sequence and a submission (log 2). -/
def placeRequest (msg : Message) (s : State) : State :=
  { s with
    phase := bootedPhase s.phase
    handle := bootedHandle s
    slots := ⟨some msg, none⟩ :: s.slots.tail
    moves := .block (some 0) :: s.moves }

end Sys2Proof.Machine
end

