-- ==== Sys2Proof/Machine/Step.lean ====
section
/-! DEFINITION. One step of the machine. -/

namespace Sys2Proof.Machine

/-- One step: a move of the outside world, the reset sequence, or the service of one whole request (R69). -/
def step (s : State) : Host.Outcome State Fault Refusal :=
  advance s

/-- `s` with the request of an opcode-table word placed where the next step takes it (log 2). -/
def State.withFetchWord (s : State) (nbits w : Nat) : State :=
  placeRequest (tableMessage nbits w) s

end Sys2Proof.Machine
end

