-- ==== Sys2Proof/Machine/Assembler.lean ====
section
/-! DEFINITION. The assembler form of a request and the pseudo-requests (spec/30_encoding.md R98, R99). A source line is a
list of characters: a mnemonic, then operands separated by commas, then a comment after a semicolon. -/

namespace Sys2Proof.Machine

/-- The pseudo-requests of R99. -/
inductive Pseudo where
  | setWhite (v : Int)
  | allOff
  | ledOff (i : Int)
deriving DecidableEq, Repr

/-- What a pseudo-request expands to (R99). -/
def expandPseudo : Pseudo → Instr
  | .setWhite v => .setAll v v v
  | .allOff => .setAll 0 0 0
  | .ledOff i => .setOne i 0 0 0

/-- Why a source line is no request. -/
inductive AsmError where
  /-- an operand is no decimal or hexadecimal integer -/
  | badOperand
  /-- the mnemonic is unknown or has another number of operands -/
  | badMnemonic
  /-- an operand is outside its s32 or u32 range: "an assembly error" (R98) -/
  | operandRange
deriving DecidableEq, Repr

/-- The value of a digit in base 16, upper or lower case. -/
def digitValue (c : Char) : Option Nat :=
  if 48 ≤ c.toNat ∧ c.toNat ≤ 57 then some (c.toNat - 48)
  else if 65 ≤ c.toNat ∧ c.toNat ≤ 70 then some (c.toNat - 55)
  else if 97 ≤ c.toNat ∧ c.toNat ≤ 102 then some (c.toNat - 87)
  else none

/-- One more digit of a number in a base, if it is a digit of that base. -/
def addDigit (base : Nat) (acc : Option Nat) (c : Char) : Option Nat :=
  match acc, digitValue c with
  | some a, some d => if d < base then some (a * base + d) else none
  | _, _ => none

/-- A number in a base: at least one digit. -/
def parseDigits (base : Nat) (cs : List Char) : Option Nat :=
  match cs with
  | [] => none
  | _ => cs.foldl (addDigit base) (some 0)

/-- An operand: "a decimal integer, optionally negative, or a hexadecimal integer `0x...`" (R98). -/
def parseOperand (cs : List Char) : Option Int :=
  match cs with
  | '0' :: 'x' :: ds => (parseDigits 16 ds).map Int.ofNat
  | '-' :: ds => (parseDigits 10 ds).map fun n => -(n : Int)
  | ds => (parseDigits 10 ds).map Int.ofNat

/-- A blank or a tab. -/
def isBlank (c : Char) : Bool :=
  c == ' ' || c == '\t'

/-- A text without the blanks at its two ends. -/
def trim (cs : List Char) : List Char :=
  ((cs.dropWhile isBlank).reverse.dropWhile isBlank).reverse

/-- The texts between the commas of a text. -/
def splitCommas : List Char → List (List Char)
  | [] => [[]]
  | c :: cs =>
    match splitCommas cs with
    | [] => [[c]]
    | t :: ts => if c = ',' then [] :: t :: ts else (c :: t) :: ts

/-- The operands of a line, none if nothing stands after the mnemonic. -/
def parseOperands (cs : List Char) : Option (List Int) :=
  match trim cs with
  | [] => some []
  | ts => (splitCommas ts).mapM fun t => parseOperand (trim t)

/-- The request of a mnemonic and its operands in the order of R85, or a pseudo-request's expansion. A negative delay is
no u32. -/
def buildRequest (mnemonic : List Char) (xs : List Int) : Except AsmError Instr :=
  if mnemonic = "ENC_BYTE".toList then
    match xs with | [v] => .ok (.encByte v) | _ => .error .badMnemonic
  else if mnemonic = "ENC_PIXEL".toList then
    match xs with | [r, g, b] => .ok (.encPixel r g b) | _ => .error .badMnemonic
  else if mnemonic = "SET_ALL".toList then
    match xs with | [r, g, b] => .ok (.setAll r g b) | _ => .error .badMnemonic
  else if mnemonic = "SET_ONE".toList then
    match xs with | [index, r, g, b] => .ok (.setOne index r g b) | _ => .error .badMnemonic
  else if mnemonic = "GET_STATE".toList then
    match xs with | [] => .ok .getState | _ => .error .badMnemonic
  else if mnemonic = "SWEEP".toList then
    match xs with
    | [brightness, delayUs] =>
      if delayUs < 0 then .error .operandRange else .ok (.sweep brightness delayUs.toNat)
    | _ => .error .badMnemonic
  else if mnemonic = "SHUTDOWN".toList then
    match xs with | [] => .ok .shutdown | _ => .error .badMnemonic
  else if mnemonic = "SET_WHITE".toList then
    match xs with | [v] => .ok (expandPseudo (.setWhite v)) | _ => .error .badMnemonic
  else if mnemonic = "ALL_OFF".toList then
    match xs with | [] => .ok (expandPseudo .allOff) | _ => .error .badMnemonic
  else if mnemonic = "LED_OFF".toList then
    match xs with | [i] => .ok (expandPseudo (.ledOff i)) | _ => .error .badMnemonic
  else .error .badMnemonic

/-- The message a source line assembles to (R98): "the word list of its format". -/
def assemble (line : List Char) : Except AsmError Message :=
  let code := trim (line.takeWhile fun c => c != ';')
  match parseOperands (code.dropWhile fun c => !isBlank c) with
  | none => .error .badOperand
  | some xs =>
    match buildRequest (code.takeWhile fun c => !isBlank c) xs with
    | .error e => .error e
    | .ok i => if i.wellFormed then .ok (encode i) else .error .operandRange

end Sys2Proof.Machine
end

