-- ==== Sys2Proof/Machine/Link.lean ====
section
/-! DEFINITION. Messages over a byte-wide link, in the order LINK_BYTE_ORDER gives (spec/00_scope.md R21,
spec/20_memory.md R58). The block itself sees whole words (R62). -/

namespace Sys2Proof.Machine

/-- The four bytes of a word in link order. -/
def wordBytes (o : ByteOrder) (w : Word) : List Byte :=
  match o with
  | .big => [w.extractLsb' 24 8, w.extractLsb' 16 8, w.extractLsb' 8 8, w.extractLsb' 0 8]
  | .little => [w.extractLsb' 0 8, w.extractLsb' 8 8, w.extractLsb' 16 8, w.extractLsb' 24 8]

/-- The word of four bytes in link order. -/
def bytesWord (o : ByteOrder) (b0 b1 b2 b3 : Byte) : Word :=
  match o with
  | .big => b0 ++ b1 ++ b2 ++ b3
  | .little => b3 ++ b2 ++ b1 ++ b0

/-- A message as the bytes of the link. -/
def linkBytes (o : ByteOrder) (msg : Message) : List Byte :=
  msg.flatMap (wordBytes o)

/-- The message of a list of link bytes, if they are whole words (R62: "there is no partial-word access"). -/
def linkWords (o : ByteOrder) : List Byte → Option Message
  | [] => some []
  | b0 :: b1 :: b2 :: b3 :: rest => (linkWords o rest).map (bytesWord o b0 b1 b2 b3 :: ·)
  | _ => none

/-- Why bytes of the link are no request. -/
inductive LinkError where
  /-- they are not whole words (R62) -/
  | brokenWord
  /-- the words are a malformed request (R95) -/
  | malformed (e : DecodeError)
deriving DecidableEq, Repr

/-- The request that bytes of the link carry: total on any bytes, rejecting by name. -/
def decodeLink (o : ByteOrder) (bytes : List Byte) : Except LinkError Instr :=
  match linkWords o bytes with
  | none => .error .brokenWord
  | some msg =>
    match decode msg with
    | .ok i => .ok i
    | .error e => .error (.malformed e)

/-- The bytes in which the block's platform carries a reply, in the order its parameter fixes. -/
def replyBytes (s : State) (msg : Message) : List Byte :=
  linkBytes s.cfg.linkByteOrder msg

/-- The request message in bytes that the block's platform carried, in the order its parameter fixes. -/
def requestWords (s : State) (bytes : List Byte) : Option Message :=
  linkWords s.cfg.linkByteOrder bytes

end Sys2Proof.Machine
end

