-- ==== Sys2Proof/Machine/Wire.lean ====
section
/-! DEFINITION. What the transport calls of TRACE put on the line (spec/20_memory.md R57, spec/60_exceptions.md R153), and
the timing figures (spec/70_reset_and_hazards.md R174, R175, R177), which no rule of the block reads. -/

namespace Sys2Proof.Machine

/-- The line levels of a byte list: byte 0 first, each byte most significant bit first, a 1 bit high (R57). -/
def lineLevels (bytes : List Byte) : List Bool :=
  bytes.flatMap bitsMsb

/-- The bytes a transport call has sent: all of them on Ok, a prefix on Error (R153). The prefix's length is unknown (U2):
it is the argument `sent`, and a claim holds for every one. -/
def sentBytes (sent : Nat) : TransportCall → List Byte
  | .openBus _ _ _ => []
  | .setClock _ => []
  | .tx bytes .ok => bytes
  | .tx bytes .error => bytes.take sent
  | .close _ => []

/-- The line levels of a TRACE, one after the other; `sent k` is the prefix sent of the k-th call, if it failed. -/
def wireFrom (sent : Nat → Nat) : Nat → List TransportCall → List Bool
  | _, [] => []
  | k, c :: cs => lineLevels (sentBytes (sent k) c) ++ wireFrom sent (k + 1) cs

/-- The seconds one packed bit lasts: one serial clock period (R174). -/
def bitSeconds (clkHz : Nat) : Rat :=
  1 / clkHz

/-- The seconds one symbol lasts (R174). -/
def symbolSeconds (clkHz : Nat) : Rat :=
  3 * bitSeconds clkHz

/-- How many bit periods of a symbol the line is high (R174). -/
def highPeriods (sym : BitVec 3) : Nat :=
  (bitsMsb sym).count true

/-- The seconds the line is high in the symbol of a data bit (R174). -/
def highSeconds (clkHz : Nat) (b : Bool) : Rat :=
  highPeriods (encBit b) * bitSeconds clkHz

/-- The seconds a frame of P + 9N bytes lasts on the wire (R175). -/
def frameSeconds (c : Config) : Rat :=
  8 * (c.p + 9 * c.n) * bitSeconds c.clkHz

/-- The least seconds a full sweep with this delay lasts (R177). -/
def sweepSeconds (c : Config) (delayUs : Nat) : Rat :=
  (c.n - 1 : Nat) * delayUs / 1000000 + c.n * frameSeconds c

end Sys2Proof.Machine
end

