-- ==== Sys2Proof/Safety.lean ====
section
/-! DEFINITION. What claims speak of: the answer of a request, the malformed messages of R95 written out from the opcode
map, the states a run can rest in, and a run that never stops with a fault. -/

namespace Sys2Proof.Machine

/-- The state once requester q's request has been answered with `msg` and PHASE is `p`, all else as in `s`: its PENDING is
empty, its REPLY holds the answer, STAGE is empty and no request is in service (R25, R45, R147). -/
def answered (q : Nat) (msg : Message) (p : Phase) (s : State) : State :=
  { s with
    phase := p
    stage := none
    serving := none
    slots := s.slots.set q ⟨none, some msg⟩ }

/-- The length in words R85 fixes for the value of an OPCODE field, none where it is unassigned. -/
def assignedLength (op : Byte) : Option Nat :=
  if op = 0x01 then some 2
  else if op = 0x02 then some 4
  else if op = 0x10 then some 4
  else if op = 0x11 then some 5
  else if op = 0x12 then some 1
  else if op = 0x13 then some 3
  else if op = 0x20 then some 1
  else none

/-- A message is malformed when one of the four items of R95 holds. -/
def malformed (msg : Message) : Prop :=
  msg = [] ∨
    ∃ (cmd : Word) (ws : List Word), msg = cmd :: ws ∧
      (assignedLength (BitVec.ofNat 8 (cmd.toNat / 2 ^ 24)) = none ∨
        cmd.toNat % 2 ^ 24 ≠ 0 ∨
        assignedLength (BitVec.ofNat 8 (cmd.toNat / 2 ^ 24)) ≠ some msg.length)

/-- The bytes of the last `Tx` entry with verdict Ok (R71). -/
def lastOkFrame (trace : List TransportCall) : Option (List Byte) :=
  trace.foldl
    (fun last c =>
      match c with
      | .tx bytes .ok => some bytes
      | _ => last) none

/-- An entry of TRACE that is a `Tx` (R49). -/
def isTx : TransportCall → Bool
  | .tx _ _ => true
  | _ => false

/-- What TRACE looks like in each phase (R137 to R141, R161): nothing in INIT, one failed `Open` in FAILED; else one
successful `Open`, one `SetClock`, then frames, and in HALTED one `Close` at the end. BUSY is no phase between steps. -/
def traceShape (s : State) : Prop :=
  match s.phase with
  | .init => s.trace = []
  | .failed => s.trace = [.openBus s.cfg.busId s.cfg.deviceId .error]
  | .ready =>
    ∃ frames, (∀ c ∈ frames, isTx c = true) ∧
      s.trace = .openBus s.cfg.busId s.cfg.deviceId .ok :: .setClock s.cfg.clkHz :: frames
  | .halted =>
    ∃ frames v, (∀ c ∈ frames, isTx c = true) ∧
      s.trace = .openBus s.cfg.busId s.cfg.deviceId .ok :: .setClock s.cfg.clkHz :: (frames ++ [.close v])
  | .busy => False

/-- COMMITTED is what was last successfully transmitted, or INIT_STATE if nothing was (R71). -/
def committedShown (s : State) : Prop :=
  match lastOkFrame s.trace with
  | some bytes => bytes = encFrame s.cfg.p (leds s.cfg.n s.committed)
  | none => s.committed = s.cfg.initState

/-- A response: a header, and data words only with STATUS = OK (R91). -/
def replyWellFormed (msg : Message) : Prop :=
  ∃ op st ws, msg = response op st ws ∧ (ws = [] ∨ st = .ok)

/-- The states in which a run can rest between two steps. -/
structure SafeState (s : State) : Prop where
  /-- the configuration is legal (R39) -/
  legal : legalConfig s.cfg = true
  /-- each of the NREQ requesters has its slots (R50) -/
  slotCount : s.slots.length = s.cfg.nreq
  /-- no requester has both a pending request and a reply (R50) -/
  oneOutstanding : ∀ x ∈ s.slots, x.pending = none ∨ x.reply = none
  /-- every reply is a response (R91, R92) -/
  replies : ∀ x ∈ s.slots, ∀ msg, x.reply = some msg → replyWellFormed msg
  /-- COMMITTED is well formed (R42, R44) -/
  committedOk : stripWellFormed s.cfg.n s.committed = true
  /-- STAGE is empty (R45) -/
  stageEmpty : s.stage = none
  /-- no request is in service (R63) -/
  idle : s.serving = none
  /-- HANDLE is open exactly in READY (R46, R137, R139, R140) -/
  handleOpen : (∃ h, s.handle = .opened h) ↔ s.phase = .ready
  /-- INIT_FAULT is set exactly in FAILED (R47) -/
  faultFailed : s.initFault = true ↔ s.phase = .failed
  /-- if the LEDs are known, they show COMMITTED (R48, R126, R127) -/
  displayShown : ∀ d, s.display = .known d → d = leds s.cfg.n s.committed
  /-- COMMITTED is what was last transmitted (R71) -/
  shown : committedShown s
  /-- the transport calls follow the lifecycle (R141) -/
  traced : traceShape s

/-- No run from `s`, of any length, stops with a fault. -/
def neverFaults (s : State) : Prop :=
  ∀ (k : Nat) (f : Fault), core.run k s ≠ .fault f

end Sys2Proof.Machine
end

