-- ==== Sys2Proof/Certificates/Slice0/Obligations.lean ====
section
/-! DEFINITION. The statements for the provers. Each cites the rule of spec/ it formalises. `serving`, `draws`, `answers`,
`moves` and `waitedUs` are fields of the model's own (logs 3, 4, 5, 7, 9): `nextVerdict s` and `upcomingVerdict s k` are the
transport's next answers, scripted or free, and every statement holds for each of them. -/

open Sys2Proof Sys2Proof.Machine

/-! ## Encodings -/

/-- R84 to R87: no bit of an encoding is dropped. -/
def Obligations.DecodeOfEncodeIsTheRequest : Prop :=
  ∀ i : Instr, i.wellFormed = true → decode (encode i) = .ok i

/-- R84 to R87, R97: each well-formed message has one reading, and its request encodes to it. -/
def Obligations.EncodeOfDecodeIsTheMessage : Prop :=
  ∀ (msg : Message) (i : Instr), decode msg = .ok i → encode i = msg ∧ i.wellFormed = true

/-- R95: the decoder rejects exactly the malformed messages, the four items written out from the opcode map. -/
def Obligations.DecodeRejectsExactlyTheMalformed : Prop :=
  ∀ msg : Message, (∃ e, decode msg = .error e) ↔ malformed msg

/-- R85: words written out from the opcode map, one for each opcode. -/
def Obligations.WordsOfTheOpcodeMapDecode : Prop :=
  decode [0x01000000, 0x00000055] = .ok (.encByte 85) ∧
  decode [0x02000000, 0xFFFFFFF6, 0x0000012C, 0x00000080] = .ok (.encPixel (-10) 300 128) ∧
  decode [0x10000000, 0x80000000, 0x7FFFFFFF, 0x00000000] = .ok (.setAll (-2147483648) 2147483647 0) ∧
  decode [0x11000000, 0xFFFFFFFF, 0x00000001, 0x00000002, 0x00000003] = .ok (.setOne (-1) 1 2 3) ∧
  decode [0x12000000] = .ok .getState ∧
  decode [0x13000000, 0x0000012C, 0xFFFFFFFF] = .ok (.sweep 300 4294967295) ∧
  decode [0x20000000] = .ok .shutdown

/-- R91: the fields of a response header. -/
def Obligations.HeaderHasOpcodeAndStatus : Prop :=
  ∀ (op : Byte) (st : Status),
    (header op st).extractLsb' 24 8 = op ∧
    (header op st).extractLsb' 8 16 = 0 ∧
    (header op st).extractLsb' 0 8 = statusByte st

/-- R94: the fields of a color word. -/
def Obligations.ColorWordFields : Prop :=
  ∀ c : Color,
    (colorWord c).extractLsb' 24 8 = 0 ∧ (colorWord c).extractLsb' 16 8 = c.r ∧
    (colorWord c).extractLsb' 8 8 = c.g ∧ (colorWord c).extractLsb' 0 8 = c.b

/-- R99: the pseudo-requests' expansions. -/
def Obligations.PseudoRequestsExpand : Prop :=
  (∀ v, expandPseudo (.setWhite v) = .setAll v v v) ∧
  expandPseudo .allOff = .setAll 0 0 0 ∧
  (∀ i, expandPseudo (.ledOff i) = .setOne i 0 0 0)

/-- R21, R58: over a byte-wide link, in either order, a message's bytes read back as the message. -/
def Obligations.LinkCarriesEveryMessage : Prop :=
  ∀ (o : ByteOrder) (msg : Message),
    (linkBytes o msg).length = 4 * msg.length ∧ linkWords o (linkBytes o msg) = some msg

/-! ## Operands -/

/-- R88: the three cases of clamp8. -/
def Obligations.ClampTakesTheNearestChannelValue : Prop :=
  ∀ x : Int,
    (x < 0 → clamp8 x = 0) ∧ (255 < x → clamp8 x = 255) ∧
    (0 ≤ x → x ≤ 255 → ((clamp8 x).toNat : Int) = x)

/-- R89 (which the spec marks [derived]): a host's saturation to s32 loses nothing, for a channel value or for an index
of a legal configuration; and what it sends is an s32. -/
def Obligations.SaturationLosesNothing : Prop :=
  ∀ (y : Int) (c : Config), legalConfig c = true →
    inS32 (sat32 y) = true ∧ clamp8 (sat32 y) = clamp8 y ∧ indexValid c.n (sat32 y) = indexValid c.n y

/-! ## The Bit Codec -/

/-- R101: the two symbols, and the second form of the rule. -/
def Obligations.SymbolOfADataBit : Prop :=
  encBit true = 0b110#3 ∧ encBit false = 0b100#3 ∧
  ∀ b : Bool, encBit b = BitVec.ofBool true ++ BitVec.ofBool b ++ BitVec.ofBool false

/-- R102: bits 3k+2 to 3k of a channel encoding are the symbol of data bit k, most significant first. -/
def Obligations.ChannelEncodingIsEightSymbols : Prop :=
  ∀ (v : Byte) (k : Nat), k < 8 → (encByte v).extractLsb' (3 * k) 3 = encBit (v.getLsbD k)

/-- R103 (which the spec marks [derived]): the closed form. -/
def Obligations.ChannelEncodingClosedForm : Prop :=
  ∀ v : Byte,
    encByte v = 0x924924#24 |||
      (((List.range 8).map fun k => ((BitVec.ofBool (v.getLsbD k)).setWidth 24) <<< (3 * k + 1)).foldl (· ||| ·) 0)

/-- R105 (which the spec marks [derived]): different channel values have different encodings. -/
def Obligations.ChannelEncodingInjective : Prop :=
  ∀ v w : Byte, encByte v = encByte w → v = w

/-- R40: SYMTAB has 256 entries, and entry v is enc_byte(v). -/
def Obligations.SymbolTableHoldsTheEncodings : Prop :=
  symtab.length = 256 ∧ ∀ v : Byte, symtab[v.toNat]? = some (encByte v) ∧ symtabAt v = encByte v

/-! ## The Frame Encoder -/

/-- R112: the flat bit sequence of a strip, LED 0 first, each LED most significant bit first. -/
def Obligations.StripBitsInOrder : Prop :=
  ∀ s : List Color,
    (stripBits s).length = 72 * s.length ∧
    ∀ (i t : Nat) (c : Color), t < 72 → s[i]? = some c →
      (stripBits s)[72 * i + (71 - t)]? = some ((encPixel c).getLsbD t)

/-- R110, R111: an LED's encoding is green's, red's and blue's channel encodings, high to low. -/
def Obligations.PixelEncodingInWireOrder : Prop :=
  ∀ c : Color,
    wire c = (c.g, c.r, c.b) ∧ encPixel c = encByte c.g ++ encByte c.r ++ encByte c.b

/-- R113: the byte packer, bit by bit. -/
def Obligations.PackPlacesEveryBit : Prop :=
  ∀ bs : List Bool,
    (pack bs).length = (bs.length + 7) / 8 ∧
    ∀ (j t : Nat) (x : Byte), t < 8 → (pack bs)[j]? = some x →
      x.getLsbD (7 - t) = bs.getD (8 * j + t) false

/-- R114: an incomplete last byte is the remaining bits' number shifted left by the number of missing bits. -/
def Obligations.PackLeftJustifiesTheLastByte : Prop :=
  ∀ (whole rest : List Bool) (k : Nat), whole.length = 8 * k → 1 ≤ rest.length → rest.length ≤ 7 →
    ∃ a : Byte,
      pack (whole ++ rest) = pack whole ++ [a <<< (8 - rest.length)] ∧
      a.toNat < 2 ^ rest.length ∧
      ∀ t, t < rest.length → a.getLsbD (rest.length - 1 - t) = rest.getD t false

/-- R117: a frame is the preamble and the packed bits, P + 9N bytes long; strip states with the same LED colors give the
same frame. -/
def Obligations.FrameIsPreambleAndPayload : Prop :=
  ∀ (p : Nat) (s : List Color),
    encFrame p s = List.replicate p 0 ++ pack (stripBits s) ∧
    (encFrame p s).length = p + 9 * s.length ∧
    ∀ (n : Nat) (c : Color),
      encFrame p (leds n (.uniform c)) = encFrame p (leds n (.addressable (List.replicate n c)))

/-- R118 (which the spec marks [derived]): the frame byte by byte. Channel slot k of LED i is green, red, blue for k = 0,
1, 2, and its byte j is bits 23-8j to 16-8j of its encoding. -/
def Obligations.FrameByteLayout : Prop :=
  ∀ (p : Nat) (s : List Color),
    (∀ j, j < p → (encFrame p s)[j]? = some 0) ∧
    ∀ (i j : Nat) (c : Color), s[i]? = some c → j < 3 →
      (encFrame p s)[p + 9 * i + j]? = some ((encByte c.g).extractLsb' (16 - 8 * j) 8) ∧
      (encFrame p s)[p + 9 * i + 3 + j]? = some ((encByte c.r).extractLsb' (16 - 8 * j) 8) ∧
      (encFrame p s)[p + 9 * i + 6 + j]? = some ((encByte c.b).extractLsb' (16 - 8 * j) 8)

/-- R119: the payload of a strip of one color is N repetitions of the 9 bytes of its encoding in wire order. -/
def Obligations.UniformPayloadRepeats : Prop :=
  ∀ (p n : Nat) (c : Color),
    (encFrame p (leds n (.uniform c))).drop p = (List.replicate n (pack (bitsMsb (encPixel c)))).flatten ∧
    (pack (bitsMsb (encPixel c))).length = 9

/-- R57, with R115 (which the spec marks [derived]): on the line a frame is 8P low levels and then the strip's bits,
nothing between or after them. -/
def Obligations.LineCarriesPreambleAndStripBits : Prop :=
  ∀ (p : Nat) (s : List Color),
    lineLevels (encFrame p s) = List.replicate (8 * p) false ++ stripBits s

/-- R106 (which the spec marks [derived]): every logical bit begins high and ends low. -/
def Obligations.EveryLogicalBitBeginsHighAndEndsLow : Prop :=
  ∀ (s : List Color) (m : Nat), m < 24 * s.length →
    (stripBits s)[3 * m]? = some true ∧ (stripBits s)[3 * m + 2]? = some false

/-- R174 (which the spec marks [derived]): a symbol lasts three clock periods, and is high for two of them for a data bit
1, for one for a data bit 0. -/
def Obligations.SymbolTimes : Prop :=
  ∀ clkHz : Nat,
    symbolSeconds clkHz = 3 / (clkHz : Rat) ∧ highSeconds clkHz true = 2 / (clkHz : Rat) ∧
    highSeconds clkHz false = 1 / (clkHz : Rat)

/-- R175 (which the spec marks [derived]): a frame's time on the wire is that of its line levels, one clock period
each. -/
def Obligations.FrameTimeIsItsLevels : Prop :=
  ∀ (c : Config) (s : List Color), s.length = c.n →
    ((lineLevels (encFrame c.p s)).length : Rat) * bitSeconds c.clkHz = frameSeconds c

/-! ## Requests served in READY: results and frames

`answered q msg p s` is `s` but for PHASE, STAGE, the request in service and requester q's slots, so that an equation with
it says what a request leaves unchanged as well. -/

/-- R109: ENC_BYTE. -/
def Obligations.EncByteAnswersTheEncoding : Prop :=
  ∀ (s : State) (q : Nat) (v : Int),
    encode (.encByte v) = [0x01000000, BitVec.ofInt 32 v] ∧
    (s.phase = .ready → s.serving = some q →
      exec (.encByte v) s =
        .next (answered q [0x01000000, (encByte (clamp8 v)).setWidth 32] .ready s))

/-- R124: ENC_PIXEL, in wire order. -/
def Obligations.EncPixelAnswersInWireOrder : Prop :=
  ∀ (s : State) (q : Nat) (r g b : Int),
    encode (.encPixel r g b) = [0x02000000, BitVec.ofInt 32 r, BitVec.ofInt 32 g, BitVec.ofInt 32 b] ∧
    (s.phase = .ready → s.serving = some q →
      exec (.encPixel r g b) s =
        .next (answered q
          [0x02000000, (encByte (clamp8 g)).setWidth 32, (encByte (clamp8 r)).setWidth 32,
            (encByte (clamp8 b)).setWidth 32] .ready s))

/-- R132, with R126 and R127: SET_ALL makes one `Transmit` call; on Ok it commits `Uniform` of the clamped color, on Error
COMMITTED stays and the LEDs are unknown. -/
def Obligations.SetAllCommitsOrRollsBack : Prop :=
  ∀ (s : State) (q h : Nat) (r g b : Int) (c : Color),
    c = ⟨clamp8 r, clamp8 g, clamp8 b⟩ →
    encode (.setAll r g b) = [0x10000000, BitVec.ofInt 32 r, BitVec.ofInt 32 g, BitVec.ofInt 32 b] ∧
    (s.phase = .ready → s.serving = some q → s.handle = .opened h →
      exec (.setAll r g b) s =
        match nextVerdict s with
        | .ok =>
          .next (answered q [0x10000000] .ready
            { dropVerdict s with
              committed := .uniform c
              display := .known (List.replicate s.cfg.n c)
              trace := s.trace ++ [.tx (encFrame s.cfg.p (List.replicate s.cfg.n c)) .ok] })
        | .error =>
          .next (answered q [0x10000002] .ready
            { dropVerdict s with
              display := .unknown
              trace := s.trace ++ [.tx (encFrame s.cfg.p (List.replicate s.cfg.n c)) .error] }))

/-- R133, with R90, R126, R127, R130, R131. SET_ONE with an index below 0 or from N on is E_VALIDATION, with no other
effect, whatever HANDLE is. With a valid index it makes one `Transmit` call of the whole strip; on Ok it commits the
addressable form of the committed LEDs with that one set, on Error COMMITTED stays and the LEDs are unknown. -/
def Obligations.SetOneChecksTheIndexThenCommitsOrRollsBack : Prop :=
  ∀ (s : State) (q : Nat) (index r g b : Int),
    encode (.setOne index r g b) =
      [0x11000000, BitVec.ofInt 32 index, BitVec.ofInt 32 r, BitVec.ofInt 32 g, BitVec.ofInt 32 b] ∧
    (s.phase = .ready → s.serving = some q →
      ((index < 0 ∨ (s.cfg.n : Int) ≤ index) →
        exec (.setOne index r g b) s = .next (answered q [0x11000001] .ready s)) ∧
      ∀ (h k : Nat) (pix : List Color), s.handle = .opened h → index = (k : Int) → k < s.cfg.n →
        pix = (leds s.cfg.n s.committed).set k ⟨clamp8 r, clamp8 g, clamp8 b⟩ →
        exec (.setOne index r g b) s =
          match nextVerdict s with
          | .ok =>
            .next (answered q [0x11000000] .ready
              { dropVerdict s with
                committed := .addressable pix
                display := .known pix
                trace := s.trace ++ [.tx (encFrame s.cfg.p pix) .ok] })
          | .error =>
            .next (answered q [0x11000002] .ready
              { dropVerdict s with
                display := .unknown
                trace := s.trace ++ [.tx (encFrame s.cfg.p pix) .error] }))

/-- R134: GET_STATE. -/
def Obligations.GetStateAnswersTheSnapshot : Prop :=
  ∀ (s : State) (q : Nat),
    encode .getState = [0x12000000] ∧
    (s.phase = .ready → s.serving = some q →
      exec .getState s =
        match s.committed with
        | .uniform c => .next (answered q [0x12000000, 0, 1, colorWord c] .ready s)
        | .addressable pix =>
          .next (answered q (0x12000000 :: 1 :: BitVec.ofNat 32 s.cfg.n :: pix.map colorWord) .ready s))

/-- R136, with R126, R127, R135. SWEEP whose N `Transmit` calls all return Ok, N = 0 included, commits the last step's
state and answers OK. SWEEP whose step k is the first whose `Transmit` returns Error answers E_TRANSPORT: the steps before
it stay committed, those after it are not run, and the LEDs are unknown. It has waited at least the delay before every
step but the first (`waitedUs` is the model's record of that, log 9). -/
def Obligations.SweepRunsUntilTheFirstError : Prop :=
  ∀ (s : State) (q delayUs : Nat) (brightness : Int) (b : Byte), b = clamp8 brightness →
    encode (.sweep brightness delayUs) = [0x13000000, BitVec.ofInt 32 brightness, BitVec.ofNat 32 delayUs] ∧
    (s.phase = .ready → s.serving = some q →
      ((s.cfg.n = 0 ∨ ∃ h, s.handle = .opened h) → (∀ k, k < s.cfg.n → upcomingVerdict s k = .ok) →
        exec (.sweep brightness delayUs) s =
          .next (answered q [0x13000000] .ready
            { (dropVerdict^[s.cfg.n] s) with
              committed := if s.cfg.n = 0 then s.committed else sweepState s.cfg.n (s.cfg.n - 1) b
              display := if s.cfg.n = 0 then s.display
                else .known (leds s.cfg.n (sweepState s.cfg.n (s.cfg.n - 1) b))
              trace := s.trace ++ (List.range s.cfg.n).map fun i =>
                .tx (encFrame s.cfg.p (leds s.cfg.n (sweepState s.cfg.n i b))) .ok
              waitedUs := s.waitedUs + (s.cfg.n - 1) * delayUs })) ∧
      ∀ h k : Nat, s.handle = .opened h → k < s.cfg.n →
        (∀ j, j < k → upcomingVerdict s j = .ok) → upcomingVerdict s k = .error →
        exec (.sweep brightness delayUs) s =
          .next (answered q [0x13000002] .ready
            { (dropVerdict^[k + 1] s) with
              committed := if k = 0 then s.committed else sweepState s.cfg.n (k - 1) b
              display := .unknown
              trace := s.trace ++
                ((List.range k).map fun i =>
                  TransportCall.tx (encFrame s.cfg.p (leds s.cfg.n (sweepState s.cfg.n i b))) .ok) ++
                [.tx (encFrame s.cfg.p (leds s.cfg.n (sweepState s.cfg.n k b))) .error]
              waitedUs := s.waitedUs + k * delayUs }))

/-- R140: SHUTDOWN closes the transport once, releases HANDLE whatever the verdict, and halts. -/
def Obligations.ShutdownClosesAndHalts : Prop :=
  ∀ (s : State) (q h : Nat),
    encode .shutdown = [0x20000000] ∧
    (s.phase = .ready → s.serving = some q → s.handle = .opened h →
      exec .shutdown s =
        match nextVerdict s with
        | .ok =>
          .next (answered q [0x20000000] .halted
            { dropVerdict s with handle := .closed, trace := s.trace ++ [.close .ok] })
        | .error =>
          .next (answered q [0x20000002] .halted
            { dropVerdict s with handle := .closed, trace := s.trace ++ [.close .error] }))

/-! ## Requests served in the other phases -/

/-- R147, R95: the service procedure, for any message. FAILED answers E_INIT and HALTED E_HALTED before anything else; in
READY a malformed message is E_ILLEGAL with no other effect; any other is its request, after which PHASE is HALTED for
SHUTDOWN and READY for every other request. Every answer stands in REPLY under the message's opcode, and PENDING is
empty. -/
def Obligations.ServiceChecksInOrder : Prop :=
  ∀ (s : State) (q : Nat) (msg : Message), s.serving = some q →
    (s.phase = .failed →
      serveMessage msg s = .next (answered q [messageOpcode msg ++ 0x000004#24] .failed s)) ∧
    (s.phase = .halted →
      serveMessage msg s = .next (answered q [messageOpcode msg ++ 0x000005#24] .halted s)) ∧
    (s.phase = .ready → malformed msg →
      serveMessage msg s = .next (answered q [messageOpcode msg ++ 0x000003#24] .ready s)) ∧
    (s.phase = .ready → ¬ malformed msg →
      ∃ i, decode msg = .ok i ∧ serveMessage msg s = exec i s ∧
        ∀ t, exec i s = .next t →
          t.phase = (if i = .shutdown then .halted else .ready) ∧
          ∃ st ws, t.slots = s.slots.set q ⟨none, some ((messageOpcode msg ++ (0 : BitVec 16) ++ statusByte st) :: ws)⟩)

/-- R147, R139, R140: every request is answered in FAILED and in HALTED, with no other effect. -/
def Obligations.FailedAndHaltedAnswerEveryRequest : Prop :=
  ∀ (s : State) (q : Nat) (i : Instr), s.serving = some q →
    (s.phase = .failed →
      exec i s = .next (answered q [opcodeByte (instrOpcode i) ++ 0x000004#24] .failed s)) ∧
    (s.phase = .halted →
      exec i s = .next (answered q [opcodeByte (instrOpcode i) ++ 0x000005#24] .halted s))

/-- R31, R167: no request is taken in INIT or BUSY; it waits (that `exec` then leaves the state as it is is the model's
choice, log 10). -/
def Obligations.RequestsWaitInInitAndBusy : Prop :=
  ∀ (s : State) (i : Instr), (s.phase = .init ∨ s.phase = .busy) → exec i s = .next s

/-- The model's choice, which no rule of the spec states (log 10): where HANDLE is Closed in READY, a request that must call
the transport stops by name, SET_ALL and SHUTDOWN for every N, SET_ONE with a valid index, SWEEP with N > 0. No run gets
there (see SafeRunsNeverFault). -/
def Obligations.TransportRequestsNeedAnOpenHandle : Prop :=
  ∀ (s : State), s.phase = .ready → s.handle = .closed →
    (∀ r g b : Int, exec (.setAll r g b) s = .fault .transportClosed) ∧
    (∀ (k : Nat) (r g b : Int), k < s.cfg.n → exec (.setOne (k : Int) r g b) s = .fault .transportClosed) ∧
    (∀ (brightness : Int) (delayUs : Nat), 0 < s.cfg.n →
      exec (.sweep brightness delayUs) s = .fault .transportClosed) ∧
    exec .shutdown s = .fault .transportClosed

/-- R91: a response goes to the requester that issued the request, and to no other: the service of one requester's message
leaves every other requester's slots. -/
def Obligations.ServiceLeavesOtherRequestersSlots : Prop :=
  ∀ (s t : State) (q q' : Nat) (msg : Message), s.serving = some q → q' ≠ q →
    serveMessage msg s = .next t → t.slots[q']? = s.slots[q']?

/-- R149 (which the spec marks [derived]): after any error response COMMITTED is as it was before the request, unless the
request is a SWEEP. -/
def Obligations.ErrorAnswersKeepCommitted : Prop :=
  ∀ (s t : State) (q : Nat) (msg : Message) (op : Byte) (st : Status) (ws : List Word),
    s.serving = some q → q < s.slots.length → serveMessage msg s = .next t →
    (slotAt q t).reply = some (response op st ws) → st ≠ .ok →
    (∀ b d, decode msg ≠ .ok (.sweep b d)) → t.committed = s.committed

/-- R171, R134 with R127: after a SET_ALL or SET_ONE whose transmission failed, GET_STATE answers what it would have
answered before. -/
def Obligations.FailedSetIsInvisibleToGetState : Prop :=
  ∀ (s t u v : State) (q q' : Nat) (i : Instr),
    s.phase = .ready → s.serving = some q → nextVerdict s = .error →
    ((∃ r g b, i = .setAll r g b) ∨ ∃ index r g b, i = .setOne index r g b) →
    exec i s = .next t →
    exec .getState (t.setServing (some q')) = .next u → exec .getState (s.setServing (some q')) = .next v →
    slotAt q' u = slotAt q' v

/-- R133 with R131 (the source's round trip): after a SET_ONE that was transmitted, the LED at the index has the clamped
color, and every other LED the color it had. -/
def Obligations.SetOneChangesOneLed : Prop :=
  ∀ (s t : State) (q k : Nat) (r g b : Int),
    s.phase = .ready → s.serving = some q → nextVerdict s = .ok → k < s.cfg.n →
    stripWellFormed s.cfg.n s.committed = true →
    exec (.setOne (k : Int) r g b) s = .next t →
    (leds t.cfg.n t.committed)[k]? = some ⟨clamp8 r, clamp8 g, clamp8 b⟩ ∧
    ∀ j, j ≠ k → (leds t.cfg.n t.committed)[j]? = (leds s.cfg.n s.committed)[j]?

/-- R66 (which the spec marks [derived]): a SET_ALL served twice with Ok verdicts leaves the same committed state and
transmits the same frame both times. -/
def Obligations.SetAllIsIdempotent : Prop :=
  ∀ (s t u : State) (q q' : Nat) (r g b : Int),
    s.phase = .ready → s.serving = some q → upcomingVerdict s 0 = .ok → upcomingVerdict s 1 = .ok →
    exec (.setAll r g b) s = .next t → exec (.setAll r g b) (t.setServing (some q')) = .next u →
    u.committed = t.committed ∧ u.display = t.display ∧
    ∃ frame, u.trace = s.trace ++ [.tx frame .ok, .tx frame .ok]

/-- R72 (which the spec marks [derived]): of two SET_ALLs served with Ok verdicts, COMMITTED and the last frame are the
later one's. -/
def Obligations.LaterSetAllWins : Prop :=
  ∀ (s t u : State) (q q' : Nat) (r g b r' g' b' : Int),
    s.phase = .ready → s.serving = some q → upcomingVerdict s 0 = .ok → upcomingVerdict s 1 = .ok →
    exec (.setAll r g b) s = .next t → exec (.setAll r' g' b') (t.setServing (some q')) = .next u →
    u.committed = .uniform ⟨clamp8 r', clamp8 g', clamp8 b'⟩ ∧
    lastOkFrame u.trace =
      some (encFrame s.cfg.p (List.replicate s.cfg.n ⟨clamp8 r', clamp8 g', clamp8 b'⟩))

/-! ## Reset and the reset sequence -/

/-- 10_state.md section 10: every field at its reset value, for every configuration; P and CLK_HZ have the spec's defaults
in the model's own `State.reset` (its other parameters are the model's choice, log 1). -/
def Obligations.ResetValues : Prop :=
  (∀ c : Config,
    (State.resetWith c).phase = .init ∧ (State.resetWith c).cfg = c ∧
    (State.resetWith c).committed = c.initState ∧ (State.resetWith c).stage = none ∧
    (State.resetWith c).handle = .closed ∧ (State.resetWith c).initFault = false ∧
    (State.resetWith c).display = .unknown ∧ (State.resetWith c).trace = [] ∧
    ∀ q, q < c.nreq → (State.resetWith c).slots[q]? = some ⟨none, none⟩) ∧
  State.reset.cfg.p = 3 ∧ State.reset.cfg.clkHz = 2400000

/-- R165, R142, R39: a reset that is applied, in whatever phase and with whatever HANDLE, makes no transport call and keeps
nothing of the block; what is still to come from outside stays (log 4). An illegal configuration is refused. -/
def Obligations.ResetKeepsNothing : Prop :=
  ∀ (s : State) (c : Config) (ms : List Move), s.moves = .reset c :: ms →
    step s =
      if legalConfig c = true then
        .next { State.resetWith c with draws := s.draws, answers := s.answers, moves := ms }
      else .refused .illegalConfiguration

/-- R139: if `open` returns Error, the block is FAILED with INIT_FAULT set, has made that one call, and answers every later
message with E_INIT, staying FAILED. -/
def Obligations.FailedOpenIsFatal : Prop :=
  (∀ s : State, s.phase = .init → s.moves = [] → legalConfig s.cfg = true → nextVerdict s = .error →
    step s =
      .next { dropVerdict s with
        phase := .failed
        initFault := true
        trace := s.trace ++ [.openBus s.cfg.busId s.cfg.deviceId .error] }) ∧
  ∀ (s : State) (q : Nat) (msg : Message), s.phase = .failed → s.serving = some q →
    serveMessage msg s = .next (answered q [messageOpcode msg ++ 0x000004#24] .failed s)

/-- R161, R137, R138: without a boot sweep, a successful `open` is followed by `set_clock_rate` and READY; no request is
taken. -/
def Obligations.ResetSequenceOpensAndSetsTheClock : Prop :=
  ∀ s : State, s.phase = .init → s.moves = [] → legalConfig s.cfg = true → nextVerdict s = .ok →
    s.cfg.bootSweep = false →
    ∃ (h d : Nat),
      step s =
        .next { dropVerdict s with
          phase := .ready
          handle := .opened h
          draws := d
          trace := s.trace ++
            [.openBus s.cfg.busId s.cfg.deviceId .ok, .setClock s.cfg.clkHz] }

/-- R162, R161, R136. With a boot sweep, let u be the state once `open` has returned Ok with a handle h and
`set_clock_rate` has been called; the handle is one free value drawn (log 3), so the sweep's verdicts are u's next ones. If
the N of them are Ok, N = 0 included, the block is READY with the last step's state committed and shown. If verdict k is
the first Error, the block is READY all the same, with the steps before k committed, those after k not run, and the LEDs
unknown. No response is sent. `waitedUs` is the model's record of the least waiting (log 9). That STAGE is written in INIT,
inside this step, is the model's choice (log 16). -/
def Obligations.BootSweepRunsBeforeReady : Prop :=
  ∀ s : State, s.phase = .init → s.moves = [] → legalConfig s.cfg = true → nextVerdict s = .ok →
    s.cfg.bootSweep = true →
    ∃ h : Nat, ∀ (u : State) (b : Byte),
      u = { dropVerdict s with
        handle := .opened h
        draws := (dropVerdict s).draws + 1
        trace := s.trace ++ [.openBus s.cfg.busId s.cfg.deviceId .ok, .setClock s.cfg.clkHz] } →
      b = BitVec.ofNat 8 s.cfg.defaultBrightness →
      ((∀ j, j < s.cfg.n → upcomingVerdict u j = .ok) →
        step s =
          .next { (dropVerdict^[s.cfg.n] u) with
            phase := .ready
            stage := if s.cfg.n = 0 then s.stage else none
            committed := if s.cfg.n = 0 then s.committed else sweepState s.cfg.n (s.cfg.n - 1) b
            display := if s.cfg.n = 0 then s.display
              else .known (leds s.cfg.n (sweepState s.cfg.n (s.cfg.n - 1) b))
            trace := u.trace ++ (List.range s.cfg.n).map fun i =>
              .tx (encFrame s.cfg.p (leds s.cfg.n (sweepState s.cfg.n i b))) .ok
            waitedUs := s.waitedUs + (s.cfg.n - 1) * s.cfg.sweepDelayUs }) ∧
      ∀ k, k < s.cfg.n → (∀ j, j < k → upcomingVerdict u j = .ok) → upcomingVerdict u k = .error →
        step s =
          .next { (dropVerdict^[k + 1] u) with
            phase := .ready
            stage := none
            committed := if k = 0 then s.committed else sweepState s.cfg.n (k - 1) b
            display := .unknown
            trace := u.trace ++
              ((List.range k).map fun i =>
                TransportCall.tx (encFrame s.cfg.p (leds s.cfg.n (sweepState s.cfg.n i b))) .ok) ++
              [.tx (encFrame s.cfg.p (leds s.cfg.n (sweepState s.cfg.n k b))) .error]
            waitedUs := s.waitedUs + k * s.cfg.sweepDelayUs }

/-! ## The step -/

/-- R63, R69, R147, R95: one step serves one whole message. When the block has the turn and takes requester q, the step is
the service of q's pending message, whatever it is: `exec i` where it decodes to i, and in READY the answer E_ILLEGAL with
no other effect where it is malformed. The move and the field `serving` are the model's (logs 4, 7). -/
def Obligations.StepRunsTheDecodedRequest : Prop :=
  ∀ (s t : State) (pick : Option Nat) (ms : List Move) (q : Nat) (msg : Message),
    (s.moves = .block pick :: ms ∨ (s.moves = [] ∧ pick = none ∧ ms = [])) →
    (s.phase = .ready ∨ s.phase = .failed ∨ s.phase = .halted) →
    arbiter pick (s.setMoves ms) = some (q, t) → (slotAt q t).pending = some msg →
    step s = serveMessage msg (t.setServing (some q)) ∧
    (∀ i, decode msg = .ok i → step s = exec i (t.setServing (some q))) ∧
    (s.phase = .ready → malformed msg →
      step s = .next (answered q [messageOpcode msg ++ 0x000003#24] .ready t))

/-- R68: the block takes a requester that has a pending request; each such requester can be the one; and if there is none,
the step leaves the state as it is. -/
def Obligations.EveryPendingRequestCanBeTaken : Prop :=
  (∀ (s t : State) (pick : Option Nat) (q : Nat), arbiter pick s = some (q, t) →
    (slotAt q s).pending.isSome = true ∧ t.slots = s.slots ∧ t.phase = s.phase) ∧
  (∀ (s : State) (q : Nat), (slotAt q s).pending.isSome = true → arbiter (some q) s = some (q, s)) ∧
  (∀ s : State, s.phase = .ready → s.moves = [] → (∀ q, (slotAt q s).pending = none) → step s = .next s)

/-- R50, R168: a submission fills an empty PENDING slot; while the requester's slots are not both empty it has no step. -/
def Obligations.SubmissionNeedsEmptySlots : Prop :=
  ∀ (s : State) (q : Nat) (msg : Message) (ms : List Move) (x : Slot), s.moves = .submit q msg :: ms →
    s.slots[q]? = some x →
    step s =
      if x = ⟨none, none⟩ then .next { s with slots := s.slots.set q ⟨some msg, none⟩, moves := ms }
      else .refused .submissionHasNoStep

/-- R73, R50: what a requester does itself changes nothing but its own slots. A submission that has a step puts the message
into PENDING; a collection empties REPLY and keeps PENDING. That a requester collects its reply is the model's deduction
(log 7), and the moves are the model's (log 4). -/
def Obligations.RequestersTouchOnlyTheirSlots : Prop :=
  (∀ (s t : State) (q : Nat) (msg : Message) (ms : List Move), s.moves = .submit q msg :: ms → step s = .next t →
    t = { s with slots := s.slots.set q ⟨some msg, none⟩, moves := ms }) ∧
  (∀ (s : State) (q : Nat) (x : Slot) (ms : List Move), s.moves = .collect q :: ms → s.slots[q]? = some x →
    step s = .next { s with slots := s.slots.set q ⟨x.pending, none⟩, moves := ms }) ∧
  (∀ (s : State) (q : Nat) (ms : List Move), s.moves = .collect q :: ms → s.slots[q]? = none →
    step s = .refused .noSuchRequester)

/-- R31: the phase changes only as its table says, seen between steps, where BUSY does not rest (log 10): from INIT to
READY or FAILED, from READY to HALTED, and by reset. -/
def Obligations.PhaseChangesOnlyAsTabled : Prop :=
  ∀ s t : State, step s = .next t → t.phase ≠ s.phase →
    (∃ c ms, s.moves = .reset c :: ms ∧ t.phase = .init) ∨
    (s.phase = .init ∧ (t.phase = .ready ∨ t.phase = .failed)) ∨
    (s.phase = .ready ∧ t.phase = .halted)

/-- R38: no request and no internal step writes a configuration register; only reset latches them. -/
def Obligations.OnlyResetWritesTheConfiguration : Prop :=
  ∀ s t : State, step s = .next t → t.cfg ≠ s.cfg → ∃ ms, s.moves = .reset t.cfg :: ms

/-- R160: FAILED and HALTED are final until reset, and there the block calls the transport no more and changes no color. -/
def Obligations.FailedAndHaltedAreFinal : Prop :=
  ∀ s t : State, (s.phase = .failed ∨ s.phase = .halted) → (∀ c ms, s.moves ≠ .reset c :: ms) → step s = .next t →
    t.phase = s.phase ∧ t.trace = s.trace ∧ t.committed = s.committed ∧ t.display = s.display ∧
    t.handle = s.handle ∧ t.initFault = s.initFault

/-! ## Invariants -/

/-- R39, R42 to R50: the state after reset is safe, for every legal configuration. -/
def Obligations.ResetIsSafe : Prop :=
  ∀ c : Config, legalConfig c = true → SafeState (State.resetWith c)

/-- R30, R42 to R50, R71, R91, R141: every step keeps the invariant of the machine: COMMITTED is well formed and is what
was last transmitted, the LEDs if known show it, HANDLE is open exactly in READY, INIT_FAULT is set exactly in FAILED,
TRACE follows the lifecycle with at most one `Close`, every reply is a response. -/
def Obligations.EveryStepKeepsSafety : Prop :=
  ∀ s t : State, SafeState s → step s = .next t → SafeState t

/-- From a safe state no run of any length stops with a fault: BUSY at rest and a Closed handle in READY are never met. -/
def Obligations.SafeRunsNeverFault : Prop :=
  ∀ s : State, SafeState s → neverFaults s

/-- R147, R167: in a safe state that is not in INIT, a pending request the block turns to is answered in that one step,
under its message's opcode. -/
def Obligations.PendingRequestIsAnsweredInOneTurn : Prop :=
  ∀ (s : State) (q : Nat) (msg : Message) (ms : List Move),
    SafeState s → s.phase ≠ .init → s.moves = .block (some q) :: ms → (slotAt q s).pending = some msg →
    ∃ t st ws, step s = .next t ∧
      slotAt q t = ⟨none, some ((messageOpcode msg ++ (0 : BitVec 16) ++ statusByte st) :: ws)⟩

/-- R141 (which the spec marks [derived]): after any number of steps from a safe state, TRACE, the calls since the last
reset (R49), holds at most one `Close`, and a successful `Open` before it. -/
def Obligations.CloseHappensAtMostOnce : Prop :=
  ∀ (s t : State) (k : Nat), SafeState s → core.run k s = .next t →
    (t.trace.filter fun c => c = .close .ok ∨ c = .close .error).length ≤ 1 ∧
    ∀ (before after : List TransportCall) (v : Verdict), t.trace = before ++ .close v :: after →
      .openBus t.cfg.busId t.cfg.deviceId .ok ∈ before
end

