-- ==== Sys2Proof/Laws/Codec.lean ====
section
/-! SUPPORT. Operand words and command words; the bits of a value; the byte packer's two equations and its law of
concatenation. -/

namespace Sys2Proof

/-! ## Words of a request -/

theorem inS32_iff {x : Int} : inS32 x = true ↔ -2147483648 ≤ x ∧ x ≤ 2147483647 := by
  simp [inS32]

theorem readS32_writeS32 {x : Int} (h : inS32 x = true) : readS32 (writeS32 x) = x := by
  rw [inS32_iff] at h
  simp only [readS32, writeS32, BitVec.toInt_ofInt]
  rw [Int.bmod_eq_of_le] <;> omega

theorem readU32_writeU32 {x : Nat} (h : inU32 x = true) : readU32 (writeU32 x) = x := by
  simp only [inU32, decide_eq_true_eq] at h
  simp only [readU32, writeU32, BitVec.toNat_ofNat]
  omega

theorem writeS32_readS32 (w : Word) : writeS32 (readS32 w) = w := by
  simp [readS32, writeS32]

theorem writeU32_readU32 (w : Word) : writeU32 (readU32 w) = w := by
  simp [readU32, writeU32]

theorem opcodeField_commandWord (op : Opcode) : opcodeField (commandWord op) = opcodeByte op := by
  cases op <;> decide

theorem reservedField_commandWord (op : Opcode) : reservedField (commandWord op) = 0 := by
  cases op <;> decide

theorem opcodeOfByte_opcodeByte (op : Opcode) : opcodeOfByte (opcodeByte op) = some op := by
  cases op <;> decide

namespace Machine

/-! ## Bits -/

theorem bitsMsb_length {w : Nat} (x : BitVec w) : (bitsMsb x).length = w := by
  simp [bitsMsb]

theorem bitsMsb_getElem? {w : Nat} (x : BitVec w) (t : Nat) (h : t < w) :
    (bitsMsb x)[t]? = some (x.getLsbD (w - 1 - t)) := by
  simp [bitsMsb, h, BitVec.getMsbD]

/-! ## The byte packer -/

theorem pack_eight (b7 b6 b5 b4 b3 b2 b1 b0 : Bool) (rest : List Bool) :
    pack (b7 :: b6 :: b5 :: b4 :: b3 :: b2 :: b1 :: b0 :: rest) =
      byteOfBits [b7, b6, b5, b4, b3, b2, b1, b0] :: pack rest := by
  rw [pack]

theorem exists_eight_of_length {α : Type} (l : List α) (h : 8 ≤ l.length) :
    ∃ a b c d e f g k r, l = a :: b :: c :: d :: e :: f :: g :: k :: r := by
  rcases l with _ | ⟨a, _ | ⟨b, _ | ⟨c, _ | ⟨d, _ | ⟨e, _ | ⟨f, _ | ⟨g, _ | ⟨k, l⟩⟩⟩⟩⟩⟩⟩⟩ <;> simp at h ⊢

theorem pack_short (bs : List Bool) (h0 : bs ≠ []) (h : bs.length < 8) :
    pack bs = [byteOfBits bs <<< (8 - bs.length)] := by
  rcases bs with _ | ⟨a, _ | ⟨b, _ | ⟨c, _ | ⟨d, _ | ⟨e, _ | ⟨f, _ | ⟨g, _ | ⟨k, l⟩⟩⟩⟩⟩⟩⟩⟩ <;>
    first
    | (exfalso; simp at h; omega)
    | simp_all [pack]

/-- Whole bytes are packed on their own. -/
theorem pack_append (k : Nat) (a b : List Bool) (h : a.length = 8 * k) : pack (a ++ b) = pack a ++ pack b := by
  induction k generalizing a with
  | zero =>
    obtain rfl : a = [] := List.length_eq_zero_iff.1 (by omega)
    rfl
  | succ k ih =>
    obtain ⟨_, _, _, _, _, _, _, _, r, rfl⟩ := exists_eight_of_length a (by omega)
    simp only [List.length_cons] at h
    simp only [List.cons_append, pack_eight, ih r (by omega)]

end Machine

end Sys2Proof
end

