-- ==== Sys2Proof/Laws/State.lean ====
section
/-! SUPPORT. What each named update of State leaves in each field, true by rfl, so that no proof unfolds a record
update. -/

namespace Sys2Proof.Machine

variable (s : State)

@[simp] theorem State.setPhase_phase (p : Phase) : (s.setPhase p).phase = p := rfl
@[simp] theorem State.setPhase_cfg (p : Phase) : (s.setPhase p).cfg = s.cfg := rfl
@[simp] theorem State.setPhase_committed (p : Phase) : (s.setPhase p).committed = s.committed := rfl
@[simp] theorem State.setPhase_stage (p : Phase) : (s.setPhase p).stage = s.stage := rfl
@[simp] theorem State.setPhase_handle (p : Phase) : (s.setPhase p).handle = s.handle := rfl
@[simp] theorem State.setPhase_initFault (p : Phase) : (s.setPhase p).initFault = s.initFault := rfl
@[simp] theorem State.setPhase_display (p : Phase) : (s.setPhase p).display = s.display := rfl
@[simp] theorem State.setPhase_trace (p : Phase) : (s.setPhase p).trace = s.trace := rfl
@[simp] theorem State.setPhase_slots (p : Phase) : (s.setPhase p).slots = s.slots := rfl
@[simp] theorem State.setPhase_serving (p : Phase) : (s.setPhase p).serving = s.serving := rfl
@[simp] theorem State.setPhase_waitedUs (p : Phase) : (s.setPhase p).waitedUs = s.waitedUs := rfl
@[simp] theorem State.setPhase_draws (p : Phase) : (s.setPhase p).draws = s.draws := rfl
@[simp] theorem State.setPhase_answers (p : Phase) : (s.setPhase p).answers = s.answers := rfl
@[simp] theorem State.setPhase_moves (p : Phase) : (s.setPhase p).moves = s.moves := rfl

@[simp] theorem State.setCommitted_phase (st : StripState) : (s.setCommitted st).phase = s.phase := rfl
@[simp] theorem State.setCommitted_cfg (st : StripState) : (s.setCommitted st).cfg = s.cfg := rfl
@[simp] theorem State.setCommitted_committed (st : StripState) : (s.setCommitted st).committed = st := rfl
@[simp] theorem State.setCommitted_stage (st : StripState) : (s.setCommitted st).stage = s.stage := rfl
@[simp] theorem State.setCommitted_handle (st : StripState) : (s.setCommitted st).handle = s.handle := rfl
@[simp] theorem State.setCommitted_initFault (st : StripState) : (s.setCommitted st).initFault = s.initFault := rfl
@[simp] theorem State.setCommitted_display (st : StripState) : (s.setCommitted st).display = s.display := rfl
@[simp] theorem State.setCommitted_trace (st : StripState) : (s.setCommitted st).trace = s.trace := rfl
@[simp] theorem State.setCommitted_slots (st : StripState) : (s.setCommitted st).slots = s.slots := rfl
@[simp] theorem State.setCommitted_serving (st : StripState) : (s.setCommitted st).serving = s.serving := rfl
@[simp] theorem State.setCommitted_waitedUs (st : StripState) : (s.setCommitted st).waitedUs = s.waitedUs := rfl
@[simp] theorem State.setCommitted_draws (st : StripState) : (s.setCommitted st).draws = s.draws := rfl
@[simp] theorem State.setCommitted_answers (st : StripState) : (s.setCommitted st).answers = s.answers := rfl
@[simp] theorem State.setCommitted_moves (st : StripState) : (s.setCommitted st).moves = s.moves := rfl

@[simp] theorem State.setStage_phase (st : Option StripState) : (s.setStage st).phase = s.phase := rfl
@[simp] theorem State.setStage_cfg (st : Option StripState) : (s.setStage st).cfg = s.cfg := rfl
@[simp] theorem State.setStage_committed (st : Option StripState) : (s.setStage st).committed = s.committed := rfl
@[simp] theorem State.setStage_stage (st : Option StripState) : (s.setStage st).stage = st := rfl
@[simp] theorem State.setStage_handle (st : Option StripState) : (s.setStage st).handle = s.handle := rfl
@[simp] theorem State.setStage_initFault (st : Option StripState) : (s.setStage st).initFault = s.initFault := rfl
@[simp] theorem State.setStage_display (st : Option StripState) : (s.setStage st).display = s.display := rfl
@[simp] theorem State.setStage_trace (st : Option StripState) : (s.setStage st).trace = s.trace := rfl
@[simp] theorem State.setStage_slots (st : Option StripState) : (s.setStage st).slots = s.slots := rfl
@[simp] theorem State.setStage_serving (st : Option StripState) : (s.setStage st).serving = s.serving := rfl
@[simp] theorem State.setStage_waitedUs (st : Option StripState) : (s.setStage st).waitedUs = s.waitedUs := rfl
@[simp] theorem State.setStage_draws (st : Option StripState) : (s.setStage st).draws = s.draws := rfl
@[simp] theorem State.setStage_answers (st : Option StripState) : (s.setStage st).answers = s.answers := rfl
@[simp] theorem State.setStage_moves (st : Option StripState) : (s.setStage st).moves = s.moves := rfl

@[simp] theorem State.setHandle_phase (h : Handle) : (s.setHandle h).phase = s.phase := rfl
@[simp] theorem State.setHandle_cfg (h : Handle) : (s.setHandle h).cfg = s.cfg := rfl
@[simp] theorem State.setHandle_committed (h : Handle) : (s.setHandle h).committed = s.committed := rfl
@[simp] theorem State.setHandle_stage (h : Handle) : (s.setHandle h).stage = s.stage := rfl
@[simp] theorem State.setHandle_handle (h : Handle) : (s.setHandle h).handle = h := rfl
@[simp] theorem State.setHandle_initFault (h : Handle) : (s.setHandle h).initFault = s.initFault := rfl
@[simp] theorem State.setHandle_display (h : Handle) : (s.setHandle h).display = s.display := rfl
@[simp] theorem State.setHandle_trace (h : Handle) : (s.setHandle h).trace = s.trace := rfl
@[simp] theorem State.setHandle_slots (h : Handle) : (s.setHandle h).slots = s.slots := rfl
@[simp] theorem State.setHandle_serving (h : Handle) : (s.setHandle h).serving = s.serving := rfl
@[simp] theorem State.setHandle_waitedUs (h : Handle) : (s.setHandle h).waitedUs = s.waitedUs := rfl
@[simp] theorem State.setHandle_draws (h : Handle) : (s.setHandle h).draws = s.draws := rfl
@[simp] theorem State.setHandle_answers (h : Handle) : (s.setHandle h).answers = s.answers := rfl
@[simp] theorem State.setHandle_moves (h : Handle) : (s.setHandle h).moves = s.moves := rfl

@[simp] theorem State.setInitFault_phase (b : Bool) : (s.setInitFault b).phase = s.phase := rfl
@[simp] theorem State.setInitFault_cfg (b : Bool) : (s.setInitFault b).cfg = s.cfg := rfl
@[simp] theorem State.setInitFault_committed (b : Bool) : (s.setInitFault b).committed = s.committed := rfl
@[simp] theorem State.setInitFault_stage (b : Bool) : (s.setInitFault b).stage = s.stage := rfl
@[simp] theorem State.setInitFault_handle (b : Bool) : (s.setInitFault b).handle = s.handle := rfl
@[simp] theorem State.setInitFault_initFault (b : Bool) : (s.setInitFault b).initFault = b := rfl
@[simp] theorem State.setInitFault_display (b : Bool) : (s.setInitFault b).display = s.display := rfl
@[simp] theorem State.setInitFault_trace (b : Bool) : (s.setInitFault b).trace = s.trace := rfl
@[simp] theorem State.setInitFault_slots (b : Bool) : (s.setInitFault b).slots = s.slots := rfl
@[simp] theorem State.setInitFault_serving (b : Bool) : (s.setInitFault b).serving = s.serving := rfl
@[simp] theorem State.setInitFault_waitedUs (b : Bool) : (s.setInitFault b).waitedUs = s.waitedUs := rfl
@[simp] theorem State.setInitFault_draws (b : Bool) : (s.setInitFault b).draws = s.draws := rfl
@[simp] theorem State.setInitFault_answers (b : Bool) : (s.setInitFault b).answers = s.answers := rfl
@[simp] theorem State.setInitFault_moves (b : Bool) : (s.setInitFault b).moves = s.moves := rfl

@[simp] theorem State.setDisplay_phase (d : Display) : (s.setDisplay d).phase = s.phase := rfl
@[simp] theorem State.setDisplay_cfg (d : Display) : (s.setDisplay d).cfg = s.cfg := rfl
@[simp] theorem State.setDisplay_committed (d : Display) : (s.setDisplay d).committed = s.committed := rfl
@[simp] theorem State.setDisplay_stage (d : Display) : (s.setDisplay d).stage = s.stage := rfl
@[simp] theorem State.setDisplay_handle (d : Display) : (s.setDisplay d).handle = s.handle := rfl
@[simp] theorem State.setDisplay_initFault (d : Display) : (s.setDisplay d).initFault = s.initFault := rfl
@[simp] theorem State.setDisplay_display (d : Display) : (s.setDisplay d).display = d := rfl
@[simp] theorem State.setDisplay_trace (d : Display) : (s.setDisplay d).trace = s.trace := rfl
@[simp] theorem State.setDisplay_slots (d : Display) : (s.setDisplay d).slots = s.slots := rfl
@[simp] theorem State.setDisplay_serving (d : Display) : (s.setDisplay d).serving = s.serving := rfl
@[simp] theorem State.setDisplay_waitedUs (d : Display) : (s.setDisplay d).waitedUs = s.waitedUs := rfl
@[simp] theorem State.setDisplay_draws (d : Display) : (s.setDisplay d).draws = s.draws := rfl
@[simp] theorem State.setDisplay_answers (d : Display) : (s.setDisplay d).answers = s.answers := rfl
@[simp] theorem State.setDisplay_moves (d : Display) : (s.setDisplay d).moves = s.moves := rfl

@[simp] theorem State.record_phase (c : TransportCall) : (s.record c).phase = s.phase := rfl
@[simp] theorem State.record_cfg (c : TransportCall) : (s.record c).cfg = s.cfg := rfl
@[simp] theorem State.record_committed (c : TransportCall) : (s.record c).committed = s.committed := rfl
@[simp] theorem State.record_stage (c : TransportCall) : (s.record c).stage = s.stage := rfl
@[simp] theorem State.record_handle (c : TransportCall) : (s.record c).handle = s.handle := rfl
@[simp] theorem State.record_initFault (c : TransportCall) : (s.record c).initFault = s.initFault := rfl
@[simp] theorem State.record_display (c : TransportCall) : (s.record c).display = s.display := rfl
@[simp] theorem State.record_trace (c : TransportCall) : (s.record c).trace = s.trace ++ [c] := rfl
@[simp] theorem State.record_slots (c : TransportCall) : (s.record c).slots = s.slots := rfl
@[simp] theorem State.record_serving (c : TransportCall) : (s.record c).serving = s.serving := rfl
@[simp] theorem State.record_waitedUs (c : TransportCall) : (s.record c).waitedUs = s.waitedUs := rfl
@[simp] theorem State.record_draws (c : TransportCall) : (s.record c).draws = s.draws := rfl
@[simp] theorem State.record_answers (c : TransportCall) : (s.record c).answers = s.answers := rfl
@[simp] theorem State.record_moves (c : TransportCall) : (s.record c).moves = s.moves := rfl

@[simp] theorem State.setSlots_phase (xs : List Slot) : (s.setSlots xs).phase = s.phase := rfl
@[simp] theorem State.setSlots_cfg (xs : List Slot) : (s.setSlots xs).cfg = s.cfg := rfl
@[simp] theorem State.setSlots_committed (xs : List Slot) : (s.setSlots xs).committed = s.committed := rfl
@[simp] theorem State.setSlots_stage (xs : List Slot) : (s.setSlots xs).stage = s.stage := rfl
@[simp] theorem State.setSlots_handle (xs : List Slot) : (s.setSlots xs).handle = s.handle := rfl
@[simp] theorem State.setSlots_initFault (xs : List Slot) : (s.setSlots xs).initFault = s.initFault := rfl
@[simp] theorem State.setSlots_display (xs : List Slot) : (s.setSlots xs).display = s.display := rfl
@[simp] theorem State.setSlots_trace (xs : List Slot) : (s.setSlots xs).trace = s.trace := rfl
@[simp] theorem State.setSlots_slots (xs : List Slot) : (s.setSlots xs).slots = xs := rfl
@[simp] theorem State.setSlots_serving (xs : List Slot) : (s.setSlots xs).serving = s.serving := rfl
@[simp] theorem State.setSlots_waitedUs (xs : List Slot) : (s.setSlots xs).waitedUs = s.waitedUs := rfl
@[simp] theorem State.setSlots_draws (xs : List Slot) : (s.setSlots xs).draws = s.draws := rfl
@[simp] theorem State.setSlots_answers (xs : List Slot) : (s.setSlots xs).answers = s.answers := rfl
@[simp] theorem State.setSlots_moves (xs : List Slot) : (s.setSlots xs).moves = s.moves := rfl

@[simp] theorem State.setSlot_phase (q : Nat) (x : Slot) : (s.setSlot q x).phase = s.phase := rfl
@[simp] theorem State.setSlot_cfg (q : Nat) (x : Slot) : (s.setSlot q x).cfg = s.cfg := rfl
@[simp] theorem State.setSlot_committed (q : Nat) (x : Slot) : (s.setSlot q x).committed = s.committed := rfl
@[simp] theorem State.setSlot_stage (q : Nat) (x : Slot) : (s.setSlot q x).stage = s.stage := rfl
@[simp] theorem State.setSlot_handle (q : Nat) (x : Slot) : (s.setSlot q x).handle = s.handle := rfl
@[simp] theorem State.setSlot_initFault (q : Nat) (x : Slot) : (s.setSlot q x).initFault = s.initFault := rfl
@[simp] theorem State.setSlot_display (q : Nat) (x : Slot) : (s.setSlot q x).display = s.display := rfl
@[simp] theorem State.setSlot_trace (q : Nat) (x : Slot) : (s.setSlot q x).trace = s.trace := rfl
@[simp] theorem State.setSlot_slots (q : Nat) (x : Slot) : (s.setSlot q x).slots = s.slots.set q x := rfl
@[simp] theorem State.setSlot_serving (q : Nat) (x : Slot) : (s.setSlot q x).serving = s.serving := rfl
@[simp] theorem State.setSlot_waitedUs (q : Nat) (x : Slot) : (s.setSlot q x).waitedUs = s.waitedUs := rfl
@[simp] theorem State.setSlot_draws (q : Nat) (x : Slot) : (s.setSlot q x).draws = s.draws := rfl
@[simp] theorem State.setSlot_answers (q : Nat) (x : Slot) : (s.setSlot q x).answers = s.answers := rfl
@[simp] theorem State.setSlot_moves (q : Nat) (x : Slot) : (s.setSlot q x).moves = s.moves := rfl

@[simp] theorem State.setServing_phase (q : Option Nat) : (s.setServing q).phase = s.phase := rfl
@[simp] theorem State.setServing_cfg (q : Option Nat) : (s.setServing q).cfg = s.cfg := rfl
@[simp] theorem State.setServing_committed (q : Option Nat) : (s.setServing q).committed = s.committed := rfl
@[simp] theorem State.setServing_stage (q : Option Nat) : (s.setServing q).stage = s.stage := rfl
@[simp] theorem State.setServing_handle (q : Option Nat) : (s.setServing q).handle = s.handle := rfl
@[simp] theorem State.setServing_initFault (q : Option Nat) : (s.setServing q).initFault = s.initFault := rfl
@[simp] theorem State.setServing_display (q : Option Nat) : (s.setServing q).display = s.display := rfl
@[simp] theorem State.setServing_trace (q : Option Nat) : (s.setServing q).trace = s.trace := rfl
@[simp] theorem State.setServing_slots (q : Option Nat) : (s.setServing q).slots = s.slots := rfl
@[simp] theorem State.setServing_serving (q : Option Nat) : (s.setServing q).serving = q := rfl
@[simp] theorem State.setServing_waitedUs (q : Option Nat) : (s.setServing q).waitedUs = s.waitedUs := rfl
@[simp] theorem State.setServing_draws (q : Option Nat) : (s.setServing q).draws = s.draws := rfl
@[simp] theorem State.setServing_answers (q : Option Nat) : (s.setServing q).answers = s.answers := rfl
@[simp] theorem State.setServing_moves (q : Option Nat) : (s.setServing q).moves = s.moves := rfl

@[simp] theorem State.wait_phase (us : Nat) : (s.wait us).phase = s.phase := rfl
@[simp] theorem State.wait_cfg (us : Nat) : (s.wait us).cfg = s.cfg := rfl
@[simp] theorem State.wait_committed (us : Nat) : (s.wait us).committed = s.committed := rfl
@[simp] theorem State.wait_stage (us : Nat) : (s.wait us).stage = s.stage := rfl
@[simp] theorem State.wait_handle (us : Nat) : (s.wait us).handle = s.handle := rfl
@[simp] theorem State.wait_initFault (us : Nat) : (s.wait us).initFault = s.initFault := rfl
@[simp] theorem State.wait_display (us : Nat) : (s.wait us).display = s.display := rfl
@[simp] theorem State.wait_trace (us : Nat) : (s.wait us).trace = s.trace := rfl
@[simp] theorem State.wait_slots (us : Nat) : (s.wait us).slots = s.slots := rfl
@[simp] theorem State.wait_serving (us : Nat) : (s.wait us).serving = s.serving := rfl
@[simp] theorem State.wait_waitedUs (us : Nat) : (s.wait us).waitedUs = s.waitedUs + us := rfl
@[simp] theorem State.wait_draws (us : Nat) : (s.wait us).draws = s.draws := rfl
@[simp] theorem State.wait_answers (us : Nat) : (s.wait us).answers = s.answers := rfl
@[simp] theorem State.wait_moves (us : Nat) : (s.wait us).moves = s.moves := rfl

@[simp] theorem State.bumpDraws_phase : (s.bumpDraws).phase = s.phase := rfl
@[simp] theorem State.bumpDraws_cfg : (s.bumpDraws).cfg = s.cfg := rfl
@[simp] theorem State.bumpDraws_committed : (s.bumpDraws).committed = s.committed := rfl
@[simp] theorem State.bumpDraws_stage : (s.bumpDraws).stage = s.stage := rfl
@[simp] theorem State.bumpDraws_handle : (s.bumpDraws).handle = s.handle := rfl
@[simp] theorem State.bumpDraws_initFault : (s.bumpDraws).initFault = s.initFault := rfl
@[simp] theorem State.bumpDraws_display : (s.bumpDraws).display = s.display := rfl
@[simp] theorem State.bumpDraws_trace : (s.bumpDraws).trace = s.trace := rfl
@[simp] theorem State.bumpDraws_slots : (s.bumpDraws).slots = s.slots := rfl
@[simp] theorem State.bumpDraws_serving : (s.bumpDraws).serving = s.serving := rfl
@[simp] theorem State.bumpDraws_waitedUs : (s.bumpDraws).waitedUs = s.waitedUs := rfl
@[simp] theorem State.bumpDraws_draws : (s.bumpDraws).draws = s.draws + 1 := rfl
@[simp] theorem State.bumpDraws_answers : (s.bumpDraws).answers = s.answers := rfl
@[simp] theorem State.bumpDraws_moves : (s.bumpDraws).moves = s.moves := rfl

@[simp] theorem State.setMoves_phase (ms : List Move) : (s.setMoves ms).phase = s.phase := rfl
@[simp] theorem State.setMoves_cfg (ms : List Move) : (s.setMoves ms).cfg = s.cfg := rfl
@[simp] theorem State.setMoves_committed (ms : List Move) : (s.setMoves ms).committed = s.committed := rfl
@[simp] theorem State.setMoves_stage (ms : List Move) : (s.setMoves ms).stage = s.stage := rfl
@[simp] theorem State.setMoves_handle (ms : List Move) : (s.setMoves ms).handle = s.handle := rfl
@[simp] theorem State.setMoves_initFault (ms : List Move) : (s.setMoves ms).initFault = s.initFault := rfl
@[simp] theorem State.setMoves_display (ms : List Move) : (s.setMoves ms).display = s.display := rfl
@[simp] theorem State.setMoves_trace (ms : List Move) : (s.setMoves ms).trace = s.trace := rfl
@[simp] theorem State.setMoves_slots (ms : List Move) : (s.setMoves ms).slots = s.slots := rfl
@[simp] theorem State.setMoves_serving (ms : List Move) : (s.setMoves ms).serving = s.serving := rfl
@[simp] theorem State.setMoves_waitedUs (ms : List Move) : (s.setMoves ms).waitedUs = s.waitedUs := rfl
@[simp] theorem State.setMoves_draws (ms : List Move) : (s.setMoves ms).draws = s.draws := rfl
@[simp] theorem State.setMoves_answers (ms : List Move) : (s.setMoves ms).answers = s.answers := rfl
@[simp] theorem State.setMoves_moves (ms : List Move) : (s.setMoves ms).moves = ms := rfl

@[simp] theorem dropVerdict_phase : (dropVerdict s).phase = s.phase := rfl
@[simp] theorem dropVerdict_cfg : (dropVerdict s).cfg = s.cfg := rfl
@[simp] theorem dropVerdict_committed : (dropVerdict s).committed = s.committed := rfl
@[simp] theorem dropVerdict_stage : (dropVerdict s).stage = s.stage := rfl
@[simp] theorem dropVerdict_handle : (dropVerdict s).handle = s.handle := rfl
@[simp] theorem dropVerdict_initFault : (dropVerdict s).initFault = s.initFault := rfl
@[simp] theorem dropVerdict_display : (dropVerdict s).display = s.display := rfl
@[simp] theorem dropVerdict_trace : (dropVerdict s).trace = s.trace := rfl
@[simp] theorem dropVerdict_slots : (dropVerdict s).slots = s.slots := rfl
@[simp] theorem dropVerdict_serving : (dropVerdict s).serving = s.serving := rfl
@[simp] theorem dropVerdict_waitedUs : (dropVerdict s).waitedUs = s.waitedUs := rfl
@[simp] theorem dropVerdict_draws : (dropVerdict s).draws = drawsAfter s.answers s.draws := rfl
@[simp] theorem dropVerdict_answers : (dropVerdict s).answers = s.answers.tail := rfl
@[simp] theorem dropVerdict_moves : (dropVerdict s).moves = s.moves := rfl

@[simp] theorem takeRequest_phase : (takeRequest s).phase = s.phase := rfl
@[simp] theorem takeRequest_cfg : (takeRequest s).cfg = s.cfg := rfl
@[simp] theorem takeRequest_committed : (takeRequest s).committed = s.committed := rfl
@[simp] theorem takeRequest_stage : (takeRequest s).stage = s.stage := rfl
@[simp] theorem takeRequest_handle : (takeRequest s).handle = s.handle := rfl
@[simp] theorem takeRequest_initFault : (takeRequest s).initFault = s.initFault := rfl
@[simp] theorem takeRequest_display : (takeRequest s).display = s.display := rfl
@[simp] theorem takeRequest_trace : (takeRequest s).trace = s.trace := rfl
@[simp] theorem takeRequest_slots : (takeRequest s).slots = takenSlots s.serving s.slots := rfl
@[simp] theorem takeRequest_serving : (takeRequest s).serving = s.serving := rfl
@[simp] theorem takeRequest_waitedUs : (takeRequest s).waitedUs = s.waitedUs := rfl
@[simp] theorem takeRequest_draws : (takeRequest s).draws = s.draws := rfl
@[simp] theorem takeRequest_answers : (takeRequest s).answers = s.answers := rfl
@[simp] theorem takeRequest_moves : (takeRequest s).moves = s.moves := rfl

@[simp] theorem respond_phase (op : Byte) (st : Status) (ws : List Word) : (respond op st ws s).phase = s.phase := rfl
@[simp] theorem respond_cfg (op : Byte) (st : Status) (ws : List Word) : (respond op st ws s).cfg = s.cfg := rfl
@[simp] theorem respond_committed (op : Byte) (st : Status) (ws : List Word) : (respond op st ws s).committed = s.committed := rfl
@[simp] theorem respond_stage (op : Byte) (st : Status) (ws : List Word) : (respond op st ws s).stage = none := rfl
@[simp] theorem respond_handle (op : Byte) (st : Status) (ws : List Word) : (respond op st ws s).handle = s.handle := rfl
@[simp] theorem respond_initFault (op : Byte) (st : Status) (ws : List Word) : (respond op st ws s).initFault = s.initFault := rfl
@[simp] theorem respond_display (op : Byte) (st : Status) (ws : List Word) : (respond op st ws s).display = s.display := rfl
@[simp] theorem respond_trace (op : Byte) (st : Status) (ws : List Word) : (respond op st ws s).trace = s.trace := rfl
@[simp] theorem respond_slots (op : Byte) (st : Status) (ws : List Word) : (respond op st ws s).slots = repliedSlots s.serving (response op st ws) s.slots := rfl
@[simp] theorem respond_serving (op : Byte) (st : Status) (ws : List Word) : (respond op st ws s).serving = none := rfl
@[simp] theorem respond_waitedUs (op : Byte) (st : Status) (ws : List Word) : (respond op st ws s).waitedUs = s.waitedUs := rfl
@[simp] theorem respond_draws (op : Byte) (st : Status) (ws : List Word) : (respond op st ws s).draws = s.draws := rfl
@[simp] theorem respond_answers (op : Byte) (st : Status) (ws : List Word) : (respond op st ws s).answers = s.answers := rfl
@[simp] theorem respond_moves (op : Byte) (st : Status) (ws : List Word) : (respond op st ws s).moves = s.moves := rfl

@[simp] theorem complete_phase (op : Byte) (st : Status) (ws : List Word) (p : Phase) : (complete op st ws p s).phase = p := rfl
@[simp] theorem complete_cfg (op : Byte) (st : Status) (ws : List Word) (p : Phase) : (complete op st ws p s).cfg = s.cfg := rfl
@[simp] theorem complete_committed (op : Byte) (st : Status) (ws : List Word) (p : Phase) : (complete op st ws p s).committed = s.committed := rfl
@[simp] theorem complete_stage (op : Byte) (st : Status) (ws : List Word) (p : Phase) : (complete op st ws p s).stage = none := rfl
@[simp] theorem complete_handle (op : Byte) (st : Status) (ws : List Word) (p : Phase) : (complete op st ws p s).handle = s.handle := rfl
@[simp] theorem complete_initFault (op : Byte) (st : Status) (ws : List Word) (p : Phase) : (complete op st ws p s).initFault = s.initFault := rfl
@[simp] theorem complete_display (op : Byte) (st : Status) (ws : List Word) (p : Phase) : (complete op st ws p s).display = s.display := rfl
@[simp] theorem complete_trace (op : Byte) (st : Status) (ws : List Word) (p : Phase) : (complete op st ws p s).trace = s.trace := rfl
@[simp] theorem complete_slots (op : Byte) (st : Status) (ws : List Word) (p : Phase) : (complete op st ws p s).slots = repliedSlots s.serving (response op st ws) s.slots := rfl
@[simp] theorem complete_serving (op : Byte) (st : Status) (ws : List Word) (p : Phase) : (complete op st ws p s).serving = none := rfl
@[simp] theorem complete_waitedUs (op : Byte) (st : Status) (ws : List Word) (p : Phase) : (complete op st ws p s).waitedUs = s.waitedUs := rfl
@[simp] theorem complete_draws (op : Byte) (st : Status) (ws : List Word) (p : Phase) : (complete op st ws p s).draws = s.draws := rfl
@[simp] theorem complete_answers (op : Byte) (st : Status) (ws : List Word) (p : Phase) : (complete op st ws p s).answers = s.answers := rfl
@[simp] theorem complete_moves (op : Byte) (st : Status) (ws : List Word) (p : Phase) : (complete op st ws p s).moves = s.moves := rfl

@[simp] theorem answered_phase (q : Nat) (msg : Message) (p : Phase) : (answered q msg p s).phase = p := rfl
@[simp] theorem answered_cfg (q : Nat) (msg : Message) (p : Phase) : (answered q msg p s).cfg = s.cfg := rfl
@[simp] theorem answered_committed (q : Nat) (msg : Message) (p : Phase) : (answered q msg p s).committed = s.committed := rfl
@[simp] theorem answered_stage (q : Nat) (msg : Message) (p : Phase) : (answered q msg p s).stage = none := rfl
@[simp] theorem answered_handle (q : Nat) (msg : Message) (p : Phase) : (answered q msg p s).handle = s.handle := rfl
@[simp] theorem answered_initFault (q : Nat) (msg : Message) (p : Phase) : (answered q msg p s).initFault = s.initFault := rfl
@[simp] theorem answered_display (q : Nat) (msg : Message) (p : Phase) : (answered q msg p s).display = s.display := rfl
@[simp] theorem answered_trace (q : Nat) (msg : Message) (p : Phase) : (answered q msg p s).trace = s.trace := rfl
@[simp] theorem answered_slots (q : Nat) (msg : Message) (p : Phase) : (answered q msg p s).slots = s.slots.set q ⟨none, some msg⟩ := rfl
@[simp] theorem answered_serving (q : Nat) (msg : Message) (p : Phase) : (answered q msg p s).serving = none := rfl
@[simp] theorem answered_waitedUs (q : Nat) (msg : Message) (p : Phase) : (answered q msg p s).waitedUs = s.waitedUs := rfl
@[simp] theorem answered_draws (q : Nat) (msg : Message) (p : Phase) : (answered q msg p s).draws = s.draws := rfl
@[simp] theorem answered_answers (q : Nat) (msg : Message) (p : Phase) : (answered q msg p s).answers = s.answers := rfl
@[simp] theorem answered_moves (q : Nat) (msg : Message) (p : Phase) : (answered q msg p s).moves = s.moves := rfl

end Sys2Proof.Machine
end

