-- ==== Sys2Proof/Laws/Ops.lean ====
section
/-! SUPPORT. What the shared operations do, once for each: taking a request and answering it, the service procedure, the
transport's verdicts, the transaction, the steps of a sweep. -/

namespace Sys2Proof.Machine

variable {s t u : State} {q : Nat} {op : Byte} {st : Status} {ws : List Word} {p : Phase}

/-! ## Taking and answering a request -/

/-- Taking a request and then answering it leaves the requester with the answer alone. -/
theorem repliedSlots_taken (q : Nat) (msg : Message) (l : List Slot) :
    repliedSlots (some q) msg (takenSlots (some q) l) = l.set q ⟨none, some msg⟩ := by
  simp only [repliedSlots, takenSlots, List.set_set]
  by_cases h : q < l.length
  · simp [List.getD, h]
  · rw [List.set_eq_of_length_le (by omega), List.set_eq_of_length_le (by omega)]

/-- Answering the request taken from `s` out of a later state `u` of its service. -/
theorem complete_taken (hu : u.serving = some q) (hl : u.slots = takenSlots (some q) s.slots) :
    complete op st ws p u = answered q (response op st ws) p { u with slots := s.slots } := by
  apply State.ext <;> simp [hu, hl, repliedSlots_taken]

/-! ## The service procedure -/

theorem serve_ready (body : State → Host.Outcome State Fault Refusal) (h : s.phase = .ready) :
    serve op body s = body ((takeRequest s).setPhase .busy) := by
  simp [serve, h]

theorem serve_failed (body : State → Host.Outcome State Fault Refusal) (h : s.phase = .failed)
    (hq : s.serving = some q) : serve op body s = .next (answered q (response op .eInit []) .failed s) := by
  simp only [serve, h]
  congr 1
  apply State.ext <;> simp [hq, h, repliedSlots_taken]

theorem serve_halted (body : State → Host.Outcome State Fault Refusal) (h : s.phase = .halted)
    (hq : s.serving = some q) : serve op body s = .next (answered q (response op .eHalted []) .halted s) := by
  simp only [serve, h]
  congr 1
  apply State.ext <;> simp [hq, h, repliedSlots_taken]

theorem serve_waits (body : State → Host.Outcome State Fault Refusal) (h : s.phase = .init ∨ s.phase = .busy) :
    serve op body s = .next s := by
  rcases h with h | h <;> simp [serve, h]

theorem onTransport_open (k : State → State) {calls : Bool} {h : Nat} (hh : s.handle = .opened h) :
    onTransport calls k s = .next (k s) := by
  cases calls <;> simp [onTransport, hh]

theorem onTransport_no_call (k : State → State) : onTransport false k s = .next (k s) := rfl

/-- A request that needs the transport stops only where HANDLE is Closed. -/
theorem onTransport_cases {calls : Bool} (k : State → State) :
    onTransport calls k s = .next (k s) ∨
      (calls = true ∧ s.handle = .closed ∧ onTransport calls k s = .fault .transportClosed) := by
  cases calls <;> cases h : s.handle <;> simp [onTransport, h]

/-! ## Verdicts -/

/-- Verdicts depend on the transport's script and the count of free values alone. -/
theorem upcomingVerdict_congr (ha : s.answers = t.answers) (hd : s.draws = t.draws) (k : Nat) :
    upcomingVerdict s k = upcomingVerdict t k := by
  simp [upcomingVerdict, ha, hd]

theorem nextVerdict_congr (ha : s.answers = t.answers) (hd : s.draws = t.draws) :
    nextVerdict s = nextVerdict t := by
  simp [nextVerdict, ha, hd]

theorem nextVerdict_eq_upcoming (s : State) : nextVerdict s = upcomingVerdict s 0 := by
  unfold nextVerdict upcomingVerdict
  cases h : s.answers <;> simp

theorem upcomingVerdict_drop (s : State) (k : Nat) :
    upcomingVerdict (dropVerdict s) k = upcomingVerdict s (k + 1) := by
  unfold upcomingVerdict
  cases h : s.answers with
  | nil => simp [h, drawsAfter]; congr 1; omega
  | cons v vs => simp [h, drawsAfter]

/-! ## The transaction -/

theorem transaction_ok (new : StripState) (h : nextVerdict s = .ok) :
    transaction new s =
      (.ok, { dropVerdict s with
        stage := none
        committed := new
        display := .known (leds s.cfg.n new)
        trace := s.trace ++ [.tx (encFrame s.cfg.p (leds s.cfg.n new)) .ok] }) := by
  have hn : nextVerdict (s.setStage (some new)) = .ok := h ▸ nextVerdict_congr rfl rfl
  simp only [transaction, transmit, hn, settle, commit]
  rfl

theorem transaction_error (new : StripState) (h : nextVerdict s = .error) :
    transaction new s =
      (.error, { dropVerdict s with
        stage := none
        display := .unknown
        trace := s.trace ++ [.tx (encFrame s.cfg.p (leds s.cfg.n new)) .error] }) := by
  have hn : nextVerdict (s.setStage (some new)) = .error := h ▸ nextVerdict_congr rfl rfl
  simp only [transaction, transmit, hn, settle, rollback]
  rfl

/-! ## Sweeps -/

theorem sweepSteps_nil (b : Byte) (d : Nat) : sweepSteps b d [] s = (.ok, s) := rfl

theorem sweepSteps_cons_ok (b : Byte) (d i : Nat) (rest : List Nat)
    (h : transaction (sweepState s.cfg.n i b) (sweepWait i d s) = (.ok, t)) :
    sweepSteps b d (i :: rest) s = sweepSteps b d rest t := by
  simp [sweepSteps, h]

theorem sweepSteps_cons_error (b : Byte) (d i : Nat) (rest : List Nat)
    (h : transaction (sweepState s.cfg.n i b) (sweepWait i d s) = (.error, t)) :
    sweepSteps b d (i :: rest) s = (.error, t) := by
  simp [sweepSteps, h]

theorem sweepWait_eq (i d : Nat) : sweepWait i d s = s.wait (if i = 0 then 0 else d) := by
  unfold sweepWait
  split <;> simp [State.wait]

end Sys2Proof.Machine
end

