-- ==== Sys2Proof/Laws/PerInstr.lean ====
section
/-! SUPPORT. One statement about every request as syntax, one lemma per constructor: its message is as long as R85 fixes
for its opcode, its command word holds that opcode, and RSVD is 0 (spec/30_encoding.md R84 to R86). -/

namespace Sys2Proof.Laws.CommandWord

/-- What the command word of a request's message says, and how long the message is. -/
def Statement (i : Instr) : Prop :=
  (encode i).length = requestLength (instrOpcode i) ∧
    messageOpcode (encode i) = opcodeByte (instrOpcode i) ∧
    (encode i).head?.map reservedField = some 0

theorem encByte (v : Int) : Statement (.encByte v) :=
  ⟨rfl, opcodeField_commandWord _, congrArg some (reservedField_commandWord _)⟩

theorem encPixel (r g b : Int) : Statement (.encPixel r g b) :=
  ⟨rfl, opcodeField_commandWord _, congrArg some (reservedField_commandWord _)⟩

theorem setAll (r g b : Int) : Statement (.setAll r g b) :=
  ⟨rfl, opcodeField_commandWord _, congrArg some (reservedField_commandWord _)⟩

theorem setOne (index r g b : Int) : Statement (.setOne index r g b) :=
  ⟨rfl, opcodeField_commandWord _, congrArg some (reservedField_commandWord _)⟩

theorem getState : Statement .getState :=
  ⟨rfl, opcodeField_commandWord _, congrArg some (reservedField_commandWord _)⟩

theorem sweep (brightness : Int) (delayUs : Nat) : Statement (.sweep brightness delayUs) :=
  ⟨rfl, opcodeField_commandWord _, congrArg some (reservedField_commandWord _)⟩

theorem shutdown : Statement .shutdown :=
  ⟨rfl, opcodeField_commandWord _, congrArg some (reservedField_commandWord _)⟩

end Sys2Proof.Laws.CommandWord
end

