-- ==== Sys2Proof/Laws/Reset.lean ====
section
/-! SUPPORT. What opening the transport and the reset sequence do, once for each verdict of `open`. -/

namespace Sys2Proof.Machine

variable {s : State}

theorem openTransport_ok (hv : nextVerdict s = .ok) :
    ∃ h, openTransport s =
      (.ok, { dropVerdict s with
        handle := .opened h
        draws := (dropVerdict s).draws + 1
        trace := s.trace ++ [.openBus s.cfg.busId s.cfg.deviceId .ok] }) := by
  simp only [openTransport, hv]
  exact ⟨_, rfl⟩

theorem openTransport_error (hv : nextVerdict s = .error) :
    openTransport s = (.error, (dropVerdict s).record (.openBus s.cfg.busId s.cfg.deviceId .error)) := by
  simp only [openTransport, hv]

theorem bootSweep_off (h : s.cfg.bootSweep = false) : bootSweep s = s := by
  simp [bootSweep, h]

theorem bootSweep_on (h : s.cfg.bootSweep = true) :
    bootSweep s = (runSweep (BitVec.ofNat 8 s.cfg.defaultBrightness) s.cfg.sweepDelayUs s).2 := by
  simp [bootSweep, h]

end Sys2Proof.Machine
end

