-- ==== Sys2Proof/Laws/Step.lean ====
section
/-! SUPPORT. What the arbiter, the block's turn and a step can do, once for each. -/

namespace Sys2Proof.Machine

variable {s t : State} {q : Nat}

/-- Every request's meaning is the service procedure around its own rule. -/
theorem exec_eq_serve (i : Instr) : ∃ body, ∀ s, exec i s = serve (opcodeByte (instrOpcode i)) body s := by
  cases i <;>
    simp only [exec, execEncByte, execEncPixel, execSetAll, execSetOne, execGetState, execSweep, execShutdown,
      instrOpcode] <;>
    exact ⟨_, fun _ => rfl⟩

/-! ## The arbiter -/

theorem slotAt_of_getElem? {x : Slot} (h : s.slots[q]? = some x) : slotAt q s = x := by
  simp [slotAt, List.getD, h]

theorem mem_pendingRequesters : q ∈ pendingRequesters s ↔ (slotAt q s).pending.isSome = true := by
  simp only [pendingRequesters, List.mem_filter, List.mem_range]
  refine ⟨fun h => h.2, fun h => ⟨?_, h⟩⟩
  by_contra hh
  simp [slotAt, List.getD, List.getElem?_eq_none (Nat.le_of_not_lt hh), Slot.empty] at h

theorem freeChoice_mem (qs : List Nat) (hq : qs ≠ []) : (freeChoice qs s).1 ∈ qs := by
  have : Config.freePick s.draws % qs.length < qs.length := Nat.mod_lt _ (List.length_pos_iff.2 hq)
  simp [freeChoice, List.getD, List.getElem?_eq_getElem this]

/-- The arbiter takes one of the pending requests, and may draw a free value for it. -/
theorem arbiter_cases (pick : Option Nat) (h : arbiter pick s = some (q, t)) :
    q ∈ pendingRequesters s ∧ (t = s ∨ t = s.bumpDraws) := by
  unfold arbiter at h
  split at h
  · cases h
  · rename_i h1
    cases h
    simp [h1]
  · rename_i h1 _
    split at h
    · cases h
      exact ⟨freeChoice_mem _ h1, .inr rfl⟩
    · split at h
      · rename_i h3
        cases h
        exact ⟨by simpa using h3, .inl rfl⟩
      · cases h
        exact ⟨freeChoice_mem _ h1, .inr rfl⟩

/-! ## The block's turn -/

theorem blockTurn_serves (pick : Option Nat) (hp : s.phase = .ready ∨ s.phase = .failed ∨ s.phase = .halted) :
    blockTurn pick s = serveNext pick s := by
  rcases hp with h | h | h <;> simp [blockTurn, h]

theorem step_block (pick : Option Nat) (ms : List Move)
    (h : s.moves = .block pick :: ms ∨ (s.moves = [] ∧ pick = none ∧ ms = [])) :
    step s = blockTurn pick (s.setMoves ms) := by
  rcases h with h | ⟨h, rfl, rfl⟩
  · simp [step, advance, h, performMove]
  · have : s.setMoves [] = s := by apply State.ext <;> simp [h]
    simp [step, advance, h, this]

/-- A turn in which the block may take a request idles, or serves one that is pending. -/
theorem serveNext_cases (pick : Option Nat) (h : serveNext pick s = .next t) :
    t = s ∨ ∃ q u msg, (slotAt q s).pending = some msg ∧ (u = s ∨ u = s.bumpDraws) ∧
      serveMessage msg (u.setServing (some q)) = .next t := by
  unfold serveNext at h
  split at h
  · cases h
    exact .inl rfl
  · rename_i q u ha
    obtain ⟨h1, h2⟩ := arbiter_cases pick ha
    rw [mem_pendingRequesters, Option.isSome_iff_exists] at h1
    obtain ⟨msg, hmsg⟩ := h1
    refine .inr ⟨q, u, msg, hmsg, h2, ?_⟩
    have : slotAt q u = slotAt q s := by rcases h2 with rfl | rfl <;> rfl
    simpa [pendingMessage, this, hmsg] using h

/-! ## The step -/

/-- A step that answers a next state is a reset, a submission, a collection, the reset sequence, or a turn in which the
block may take a request. -/
theorem step_cases (h : step s = .next t) :
    (∃ c ms, s.moves = .reset c :: ms ∧ legalConfig c = true ∧
      t = { State.resetWith c with draws := s.draws, answers := s.answers, moves := ms }) ∨
    (∃ q msg ms, s.moves = .submit q msg :: ms ∧ q < s.slots.length ∧ slotAt q s = Slot.empty ∧
      t = { s with slots := s.slots.set q ⟨some msg, none⟩, moves := ms }) ∨
    (∃ q ms, s.moves = .collect q :: ms ∧
      t = { s with slots := s.slots.set q ⟨(slotAt q s).pending, none⟩, moves := ms }) ∨
    (∃ pick ms, (s.moves = .block pick :: ms ∨ (s.moves = [] ∧ pick = none ∧ ms = [])) ∧
      ((s.phase = .init ∧ legalConfig s.cfg = true ∧ t = resetSequence (s.setMoves ms)) ∨
        ((s.phase = .ready ∨ s.phase = .failed ∨ s.phase = .halted) ∧
          serveNext pick (s.setMoves ms) = .next t))) := by
  have turn : ∀ pick ms, (s.moves = .block pick :: ms ∨ (s.moves = [] ∧ pick = none ∧ ms = [])) →
      ((s.phase = .init ∧ legalConfig s.cfg = true ∧ t = resetSequence (s.setMoves ms)) ∨
        ((s.phase = .ready ∨ s.phase = .failed ∨ s.phase = .halted) ∧
          serveNext pick (s.setMoves ms) = .next t)) := by
    intro pick ms hm
    rw [step_block pick ms hm] at h
    cases hp : s.phase <;> simp only [blockTurn, State.setMoves_phase, hp] at h
    · split at h <;> cases h
      exact .inl ⟨rfl, ‹_›, rfl⟩
    · exact .inr ⟨.inl rfl, h⟩
    · cases h
    · exact .inr ⟨.inr (.inl rfl), h⟩
    · exact .inr ⟨.inr (.inr rfl), h⟩
  cases hm : s.moves with
  | nil => exact .inr (.inr (.inr ⟨none, [], .inr ⟨rfl, rfl, rfl⟩, turn _ _ (.inr ⟨hm, rfl, rfl⟩)⟩))
  | cons m ms =>
    cases m with
    | block pick => exact .inr (.inr (.inr ⟨pick, ms, .inl rfl, turn _ _ (.inl hm)⟩))
    | reset c =>
      simp only [step, advance, hm, performMove, applyReset, State.setMoves_draws, State.setMoves_answers,
        State.setMoves_moves] at h
      split at h <;> cases h
      exact .inl ⟨c, ms, rfl, ‹_›, rfl⟩
    | submit q msg =>
      simp only [step, advance, hm, performMove, submit] at h
      split at h
      · split at h <;> cases h
        exact .inr (.inl ⟨q, msg, ms, rfl, ‹_›, ‹_›, rfl⟩)
      · cases h
    | collect q =>
      simp only [step, advance, hm, performMove, collect] at h
      split at h <;> cases h
      exact .inr (.inr (.inl ⟨q, ms, rfl, rfl⟩))

end Sys2Proof.Machine
end

