-- ==== Sys2Proof/Tests/Slice0.lean ====
section
/-! SUPPORT. The model's own tests, and a witness for the hypotheses of every obligation that has any. Each expected
value is transcribed from spec/95_test_vectors.md (S, B, PK, F, O, X, T, G, W, SD, E, J, P are its vectors) or, for the
words of the requests, from spec/30_encoding.md R84 to R87. -/

-- One proof after another: this file's many small proofs need less memory so.
set_option Elab.async false

namespace Sys2Proof.Machine.Tests

/-! ## States to start from -/

/-- TRACE once the reset sequence has run without a boot sweep. -/
def booted : List TransportCall :=
  [.openBus 0 0 .ok, .setClock 2400000]

/-- READY with N LEDs, committed state `c`, the transport's next verdicts, and requester 0's message pending. -/
def ready (n : Nat) (c : StripState) (vs : List Verdict) (msg : Message) : State :=
  { State.resetWith { Config.standard with n := n, initState := c } with
    phase := .ready
    handle := .opened 7
    trace := booted
    answers := vs
    slots := [⟨some msg, none⟩] }

/-- The same with that request in service. -/
def served (n : Nat) (c : StripState) (vs : List Verdict) (msg : Message) : State :=
  (ready n c vs msg).setServing (some 0)

/-- FAILED after the reset sequence, with requester 0's message pending. -/
def failedAt (msg : Message) : State :=
  { State.reset with
    phase := .failed
    initFault := true
    trace := [.openBus 0 0 .error]
    slots := [⟨some msg, none⟩] }

/-- HALTED after a SHUTDOWN, with requester 0's message pending. -/
def haltedAt (msg : Message) : State :=
  { State.reset with
    phase := .halted
    trace := booted ++ [.close .ok]
    slots := [⟨some msg, none⟩] }

/-- The reply of requester 0. -/
def reply (t : State) : Option Message :=
  (slotAt 0 t).reply

/-- The outcome is a next state of which `p` holds. -/
def shows (o : Host.Outcome State Fault Refusal) (p : State → Bool) : Bool :=
  match o with
  | .next t => p t
  | .fault _ => false
  | .refused _ => false

/-- The outcome is this refusal. -/
def refuses (o : Host.Outcome State Fault Refusal) (r : Refusal) : Bool :=
  match o with
  | .next _ => false
  | .fault _ => false
  | .refused r' => r' == r

/-- The colors of the vectors. -/
def uni (r g b : Byte) : StripState := .uniform ⟨r, g, b⟩

/-! ## Well-formedness: one ill-formed term for each check -/

theorem test_illFormed_encByte : Instr.wellFormed (.encByte 2147483648) = false := by decide

theorem test_illFormed_encPixel_r : Instr.wellFormed (.encPixel (-2147483649) 0 0) = false := by decide

theorem test_illFormed_encPixel_g : Instr.wellFormed (.encPixel 0 2147483648 0) = false := by decide

theorem test_illFormed_encPixel_b : Instr.wellFormed (.encPixel 0 0 2147483648) = false := by decide

theorem test_illFormed_setAll_r : Instr.wellFormed (.setAll 2147483648 0 0) = false := by decide

theorem test_illFormed_setAll_g : Instr.wellFormed (.setAll 0 (-2147483649) 0) = false := by decide

theorem test_illFormed_setAll_b : Instr.wellFormed (.setAll 0 0 2147483648) = false := by decide

theorem test_illFormed_setOne_index : Instr.wellFormed (.setOne (-2147483649) 0 0 0) = false := by decide

theorem test_illFormed_setOne_r : Instr.wellFormed (.setOne 0 2147483648 0 0) = false := by decide

theorem test_illFormed_setOne_g : Instr.wellFormed (.setOne 0 0 2147483648 0) = false := by decide

theorem test_illFormed_setOne_b : Instr.wellFormed (.setOne 0 0 0 2147483648) = false := by decide

theorem test_illFormed_sweep_brightness : Instr.wellFormed (.sweep 2147483648 0) = false := by decide

theorem test_illFormed_sweep_delay : Instr.wellFormed (.sweep 0 4294967296) = false := by decide

theorem test_wellFormed_bounds :
    Instr.wellFormed (.setOne (-2147483648) 2147483647 0 255) = true ∧
    Instr.wellFormed (.sweep 2147483647 4294967295) = true := by
  decide

/-! ## Decoding: each opcode's words written out from R84 to R87, and each rejection of R95 -/

theorem test_decode_encByte : decode [0x01000000, 0x00000055] = .ok (.encByte 85) := by decide

theorem test_decode_encPixel :
    decode [0x02000000, 0x0000000A, 0x00000014, 0x0000001E] = .ok (.encPixel 10 20 30) := by decide

theorem test_decode_setAll :
    decode [0x10000000, 0xFFFFFFF6, 0x0000012C, 0x00000080] = .ok (.setAll (-10) 300 128) := by decide

theorem test_decode_setOne :
    decode [0x11000000, 0x00000005, 0x0000000A, 0x00000014, 0x0000001E] = .ok (.setOne 5 10 20 30) := by decide

theorem test_decode_getState : decode [0x12000000] = .ok .getState := by decide

theorem test_decode_sweep : decode [0x13000000, 0xFFFFFFFF, 0xFFFFFFFF] = .ok (.sweep (-1) 4294967295) := by decide

theorem test_decode_shutdown : decode [0x20000000] = .ok .shutdown := by decide

theorem test_decode_empty : decode [] = .error .emptyMessage := by decide

theorem test_decode_opcodeZero : decode [0x00000000] = .error .unassignedOpcode := by decide

theorem test_decode_opcodeUnassigned : decode [0x7F000000] = .error .unassignedOpcode := by decide

theorem test_decode_reserved : decode [0x01000001, 0x00000005] = .error .reservedBits := by decide

theorem test_decode_reservedTop : decode [0x20800000] = .error .reservedBits := by decide

theorem test_decode_tooLong : decode [0x12000000, 0x00000000] = .error .wrongLength := by decide

theorem test_decode_tooShort : decode [0x10000000, 0x00000001, 0x00000002] = .error .wrongLength := by decide

theorem test_encode_setOne :
    encode (.setOne (-1) 1 2 3) = [0x11000000, 0xFFFFFFFF, 0x00000001, 0x00000002, 0x00000003] := by decide

theorem test_tableWord_shutdown : decodeTableWord 32 0x20000000 = some .shutdown := by decide

/-- Operand words beyond `nbits` are zero. -/
theorem test_tableWord_shorter : decodeTableWord 32 0x11000000 = some (.setOne 0 0 0 0) := by decide

theorem test_tableWord_sweep : decodeTableWord 96 0x00000032_0000012C_13000000 = some (.sweep 300 50) := by decide

/-- A word more than the opcode's length is not dropped (R95). -/
theorem test_tableWord_tooLong : decodeTableWord 64 0x00000000_12000000 = none := by decide

/-! ## Operands (O1 to O17) -/

/-- O1 to O13: the word, the s32 it is read as, its clamp, and whether it is a valid index with N = 8. -/
def operandRows : List (Word × Int × Byte × Bool) :=
  [(0x80000000, -2147483648, 0, false),
    (0xFFFFFFF6, -10, 0, false),
    (0xFFFFFFFF, -1, 0, false),
    (0x00000000, 0, 0, true),
    (0x00000001, 1, 1, true),
    (0x00000007, 7, 7, true),
    (0x00000008, 8, 8, false),
    (0x0000007F, 127, 127, false),
    (0x00000080, 128, 128, false),
    (0x000000FF, 255, 255, false),
    (0x00000100, 256, 255, false),
    (0x0000012C, 300, 255, false),
    (0x7FFFFFFF, 2147483647, 255, false)]

theorem test_operands :
    (operandRows.all fun x =>
      readS32 x.1 == x.2.1 && clamp8 x.2.1 == x.2.2.1 && indexValid 8 x.2.1 == x.2.2.2) = true := by
  decide

/-- O14, O15. -/
theorem test_saturation :
    writeS32 (sat32 1099511627776) = 0x7FFFFFFF ∧ writeS32 (sat32 (-1099511627776)) = 0x80000000 ∧
    clamp8 (sat32 1099511627776) = 255 ∧ clamp8 (sat32 (-1099511627776)) = 0 := by
  decide

/-- O16. -/
theorem test_noIndexWithoutLeds : indexValid 0 0 = false := by decide

/-! ## The Bit Codec (B1 to B18) and the symbol table (section 3 of the vectors) -/

/-- B1 to B14, and v = 0x24 of B18. -/
def codecRows : List (Byte × BitVec 24) :=
  [(0x00, 0x924924), (0x01, 0x924926), (0x02, 0x924934), (0x04, 0x9249A4), (0x08, 0x924D24),
    (0x0F, 0x924DB6), (0x10, 0x926924), (0x55, 0x9A69A6), (0x7F, 0x9B6DB6), (0x80, 0xD24924),
    (0xAA, 0xD34D34), (0xF0, 0xDB6924), (0xFE, 0xDB6DB4), (0xFF, 0xDB6DB6), (0x24, 0x9349A4)]

theorem test_encByte_rows : (codecRows.all fun x => encByte x.1 == x.2) = true := by decide

/-- Entries 0 to 63 of the table. -/
def tableQuarter0 : List (BitVec 24) :=
  [0x924924, 0x924926, 0x924934, 0x924936, 0x9249A4, 0x9249A6, 0x9249B4, 0x9249B6] ++
  [0x924D24, 0x924D26, 0x924D34, 0x924D36, 0x924DA4, 0x924DA6, 0x924DB4, 0x924DB6] ++
  [0x926924, 0x926926, 0x926934, 0x926936, 0x9269A4, 0x9269A6, 0x9269B4, 0x9269B6] ++
  [0x926D24, 0x926D26, 0x926D34, 0x926D36, 0x926DA4, 0x926DA6, 0x926DB4, 0x926DB6] ++
  [0x934924, 0x934926, 0x934934, 0x934936, 0x9349A4, 0x9349A6, 0x9349B4, 0x9349B6] ++
  [0x934D24, 0x934D26, 0x934D34, 0x934D36, 0x934DA4, 0x934DA6, 0x934DB4, 0x934DB6] ++
  [0x936924, 0x936926, 0x936934, 0x936936, 0x9369A4, 0x9369A6, 0x9369B4, 0x9369B6] ++
  [0x936D24, 0x936D26, 0x936D34, 0x936D36, 0x936DA4, 0x936DA6, 0x936DB4, 0x936DB6]

theorem test_symtab_0 : (symtab.drop 0).take 64 = tableQuarter0 := by decide +kernel

/-- Entries 64 to 127 of the table. -/
def tableQuarter1 : List (BitVec 24) :=
  [0x9A4924, 0x9A4926, 0x9A4934, 0x9A4936, 0x9A49A4, 0x9A49A6, 0x9A49B4, 0x9A49B6] ++
  [0x9A4D24, 0x9A4D26, 0x9A4D34, 0x9A4D36, 0x9A4DA4, 0x9A4DA6, 0x9A4DB4, 0x9A4DB6] ++
  [0x9A6924, 0x9A6926, 0x9A6934, 0x9A6936, 0x9A69A4, 0x9A69A6, 0x9A69B4, 0x9A69B6] ++
  [0x9A6D24, 0x9A6D26, 0x9A6D34, 0x9A6D36, 0x9A6DA4, 0x9A6DA6, 0x9A6DB4, 0x9A6DB6] ++
  [0x9B4924, 0x9B4926, 0x9B4934, 0x9B4936, 0x9B49A4, 0x9B49A6, 0x9B49B4, 0x9B49B6] ++
  [0x9B4D24, 0x9B4D26, 0x9B4D34, 0x9B4D36, 0x9B4DA4, 0x9B4DA6, 0x9B4DB4, 0x9B4DB6] ++
  [0x9B6924, 0x9B6926, 0x9B6934, 0x9B6936, 0x9B69A4, 0x9B69A6, 0x9B69B4, 0x9B69B6] ++
  [0x9B6D24, 0x9B6D26, 0x9B6D34, 0x9B6D36, 0x9B6DA4, 0x9B6DA6, 0x9B6DB4, 0x9B6DB6]

theorem test_symtab_1 : (symtab.drop 64).take 64 = tableQuarter1 := by decide +kernel

/-- Entries 128 to 191 of the table. -/
def tableQuarter2 : List (BitVec 24) :=
  [0xD24924, 0xD24926, 0xD24934, 0xD24936, 0xD249A4, 0xD249A6, 0xD249B4, 0xD249B6] ++
  [0xD24D24, 0xD24D26, 0xD24D34, 0xD24D36, 0xD24DA4, 0xD24DA6, 0xD24DB4, 0xD24DB6] ++
  [0xD26924, 0xD26926, 0xD26934, 0xD26936, 0xD269A4, 0xD269A6, 0xD269B4, 0xD269B6] ++
  [0xD26D24, 0xD26D26, 0xD26D34, 0xD26D36, 0xD26DA4, 0xD26DA6, 0xD26DB4, 0xD26DB6] ++
  [0xD34924, 0xD34926, 0xD34934, 0xD34936, 0xD349A4, 0xD349A6, 0xD349B4, 0xD349B6] ++
  [0xD34D24, 0xD34D26, 0xD34D34, 0xD34D36, 0xD34DA4, 0xD34DA6, 0xD34DB4, 0xD34DB6] ++
  [0xD36924, 0xD36926, 0xD36934, 0xD36936, 0xD369A4, 0xD369A6, 0xD369B4, 0xD369B6] ++
  [0xD36D24, 0xD36D26, 0xD36D34, 0xD36D36, 0xD36DA4, 0xD36DA6, 0xD36DB4, 0xD36DB6]

theorem test_symtab_2 : (symtab.drop 128).take 64 = tableQuarter2 := by decide +kernel

/-- Entries 192 to 255 of the table. -/
def tableQuarter3 : List (BitVec 24) :=
  [0xDA4924, 0xDA4926, 0xDA4934, 0xDA4936, 0xDA49A4, 0xDA49A6, 0xDA49B4, 0xDA49B6] ++
  [0xDA4D24, 0xDA4D26, 0xDA4D34, 0xDA4D36, 0xDA4DA4, 0xDA4DA6, 0xDA4DB4, 0xDA4DB6] ++
  [0xDA6924, 0xDA6926, 0xDA6934, 0xDA6936, 0xDA69A4, 0xDA69A6, 0xDA69B4, 0xDA69B6] ++
  [0xDA6D24, 0xDA6D26, 0xDA6D34, 0xDA6D36, 0xDA6DA4, 0xDA6DA6, 0xDA6DB4, 0xDA6DB6] ++
  [0xDB4924, 0xDB4926, 0xDB4934, 0xDB4936, 0xDB49A4, 0xDB49A6, 0xDB49B4, 0xDB49B6] ++
  [0xDB4D24, 0xDB4D26, 0xDB4D34, 0xDB4D36, 0xDB4DA4, 0xDB4DA6, 0xDB4DB4, 0xDB4DB6] ++
  [0xDB6924, 0xDB6926, 0xDB6934, 0xDB6936, 0xDB69A4, 0xDB69A6, 0xDB69B4, 0xDB69B6] ++
  [0xDB6D24, 0xDB6D26, 0xDB6D34, 0xDB6D36, 0xDB6DA4, 0xDB6DA6, 0xDB6DB4, 0xDB6DB6]

theorem test_symtab_3 : (symtab.drop 192).take 64 = tableQuarter3 := by decide +kernel

/-! ## The packer (PK1 to PK10) and frames (F1 to F8) -/

/-- PK1 to PK9. -/
def packRows : List (List Bool × List Byte) :=
  [([], []),
    ([true], [0x80]),
    ([false], [0x00]),
    ([true, true, false, true, false], [0xD0]),
    ([true, true, true, true, true, true, true], [0xFE]),
    ([true, true, true, true, true, true, true, true], [0xFF]),
    ([true, true, true, true, true, true, true, true, true], [0xFF, 0x80]),
    ([true, true, false, true, false, false, true, true], [0xD3]),
    ([true, false, false, true, false, false, true, false, false], [0x92, 0x00])]

theorem test_pack_rows : (packRows.all fun x => pack x.1 == x.2) = true := by decide

/-- PK10. -/
theorem test_pack_blackLed :
    pack (bitsMsb (encPixel ⟨0, 0, 0⟩)) = [0x92, 0x49, 0x24, 0x92, 0x49, 0x24, 0x92, 0x49, 0x24] := by decide

theorem test_frame_F1 : encFrame 3 [] = [0x00, 0x00, 0x00] := by decide

theorem test_frame_F2 : encFrame 0 [] = [] := by decide

theorem test_frame_F3 : encFrame 0 [⟨0, 0, 0⟩] = [0x92, 0x49, 0x24, 0x92, 0x49, 0x24, 0x92, 0x49, 0x24] := by decide

theorem test_frame_F4 :
    encFrame 1 [⟨255, 255, 255⟩] =
      [0x00, 0xDB, 0x6D, 0xB6, 0xDB, 0x6D, 0xB6, 0xDB, 0x6D, 0xB6] := by
  decide

theorem test_frame_F5 :
    encFrame 3 [⟨255, 0, 0⟩, ⟨0, 255, 0⟩, ⟨0, 0, 255⟩] =
      [0x00, 0x00, 0x00, 0x92, 0x49, 0x24, 0xDB, 0x6D, 0xB6, 0x92, 0x49, 0x24, 0xDB, 0x6D, 0xB6,
       0x92, 0x49, 0x24, 0x92, 0x49, 0x24, 0x92, 0x49, 0x24, 0x92, 0x49, 0x24, 0xDB, 0x6D, 0xB6] := by
  decide

theorem test_frame_F6 :
    encFrame 2 [⟨1, 2, 3⟩, ⟨1, 2, 3⟩] =
      [0x00, 0x00, 0x92, 0x49, 0x34, 0x92, 0x49, 0x26, 0x92, 0x49, 0x36, 0x92, 0x49, 0x34, 0x92,
       0x49, 0x26, 0x92, 0x49, 0x36] := by
  decide

theorem test_frame_F7 :
    encFrame 3 [⟨0, 255, 128⟩] =
      [0x00, 0x00, 0x00, 0xDB, 0x6D, 0xB6, 0x92, 0x49, 0x24, 0xD2, 0x49, 0x24] := by
  decide

theorem test_frame_F8 :
    encFrame 3 [⟨10, 20, 30⟩] =
      [0x00, 0x00, 0x00, 0x92, 0x69, 0xA4, 0x92, 0x4D, 0x34, 0x92, 0x6D, 0xB4] := by
  decide

/-- The note after F8. -/
theorem test_frame_uniform :
    encFrame 3 (leds 3 (uni 0 0 16)) = [0, 0, 0] ++ (List.replicate 3
      [0x92, 0x49, 0x24, 0x92, 0x49, 0x24, 0x92, 0x69, 0x24]).flatten := by
  decide

/-- R57: most significant bit first, a 1 bit high. -/
theorem test_line_order : lineLevels [0x92] = [true, false, false, true, false, false, true, false] := by decide

/-- R153: a failed call has sent a prefix only, here of one byte. -/
theorem test_wire_prefix :
    wireFrom (fun _ => 1) 0 [.openBus 0 0 .ok, .tx [0x80, 0xFF] .error, .tx [0x01] .ok] =
      [true, false, false, false, false, false, false, false, false, false, false, false, false, false, false, true] := by
  decide

/-! ## Times (J2, J5, J7 to J9) -/

/-- J2 (1.25 microseconds), J9 (0.9375 microseconds). -/
theorem test_symbolSeconds :
    symbolSeconds 2400000 = 125 / 100000000 ∧ symbolSeconds 3200000 = 9375 / 10000000000 := by
  norm_num [symbolSeconds, bitSeconds]

/-- J7 (1.81 ms), for N = 60. -/
theorem test_frameSeconds :
    frameSeconds { Config.standard with n := 60 } = 181 / 100000 := by
  norm_num [frameSeconds, bitSeconds, Config.standard]

/-- J8 (167.6 ms), for N = 60. -/
theorem test_sweepSeconds :
    sweepSeconds { Config.standard with n := 60 } 1000 = 1676 / 10000 := by
  norm_num [sweepSeconds, frameSeconds, bitSeconds, Config.standard]

/-! ## The assembler and the link -/

theorem test_assemble_decimal :
    assemble "SET_ALL -10, 300, 128".toList = .ok [0x10000000, 0xFFFFFFF6, 0x0000012C, 0x00000080] := by decide

theorem test_assemble_hex :
    assemble "SWEEP 300, 0xFFFFFFFF".toList = .ok [0x13000000, 0x0000012C, 0xFFFFFFFF] := by decide

theorem test_assemble_comment :
    assemble "ALL_OFF  ; = SET_ALL 0, 0, 0".toList = .ok [0x10000000, 0x00000000, 0x00000000, 0x00000000] := by
  decide

theorem test_assemble_ledOff :
    assemble "LED_OFF 7".toList = .ok [0x11000000, 0x00000007, 0x00000000, 0x00000000, 0x00000000] := by decide

theorem test_assemble_range : assemble "ENC_BYTE 2147483648".toList = .error .operandRange := by decide

theorem test_assemble_negativeDelay : assemble "SWEEP 1, -1".toList = .error .operandRange := by decide

theorem test_assemble_operand : assemble "ENC_BYTE 1x".toList = .error .badOperand := by decide

theorem test_assemble_mnemonic : assemble "ENC_BYTE 1, 2".toList = .error .badMnemonic := by decide

theorem test_link_orders :
    linkBytes .big [0x12345678] = [0x12, 0x34, 0x56, 0x78] ∧
    linkBytes .little [0x12345678] = [0x78, 0x56, 0x34, 0x12] := by
  decide

theorem test_link_broken :
    decodeLink .big [0x12, 0x00, 0x00] = .error .brokenWord ∧ decodeLink .big [0x12, 0, 0, 0] = .ok .getState := by
  decide

/-! ## One step each: a request in READY (X, T, G, W and SD vectors) -/

/-- X3. -/
theorem test_encByte_X3 :
    shows (step (ready 1 (uni 0 0 0) [] [0x01000000, 0x00000080])) (fun t => decide
      (reply t = some [0x01000000, 0x00D24924] ∧
        t.trace = booted ∧
        t.phase = .ready)) = true := by
  decide +kernel

/-- X5. -/
theorem test_encByte_clamps :
    shows (step (ready 1 (uni 0 0 0) [] [0x01000000, 0x000003E8])) (fun t => decide
      (reply t = some [0x01000000, 0x00DB6DB6] ∧
        t.committed = uni 0 0 0)) = true := by
  decide +kernel

/-- X6. -/
theorem test_encPixel_X6 :
    shows (step (ready 1 (uni 0 0 0) [] [0x02000000, 0xFFFFFFF6, 0x0000012C, 0x00000080])) (fun t => decide
      (reply t = some [0x02000000, 0x00DB6DB6, 0x00924924, 0x00D24924] ∧
        t.trace = booted)) = true := by
  decide +kernel

/-- X7. -/
theorem test_encPixel_X7 :
    shows (step (ready 1 (uni 0 0 0) [] [0x02000000, 0x0000000A, 0x00000014, 0x0000001E])) (fun t => decide
      (reply t = some [0x02000000, 0x009269A4, 0x00924D34, 0x00926DB4])) = true := by
  decide +kernel

/-- T1. -/
theorem test_setAll_T1 :
    shows (step (ready 1 (uni 0 0 0) [.ok] [0x10000000, 0xFFFFFFF6, 0x0000012C, 0x00000080])) (fun t => decide
      (reply t = some [0x10000000] ∧
        t.committed = uni 0 255 128 ∧
        t.display = .known [⟨0, 255, 128⟩] ∧
        t.trace = booted ++
          [.tx [0x00, 0x00, 0x00, 0xDB, 0x6D, 0xB6, 0x92, 0x49, 0x24, 0xD2, 0x49, 0x24] .ok] ∧
        t.answers = [])) = true := by
  decide +kernel

/-- T2. -/
theorem test_setAll_T2 :
    shows (step (ready 1 (uni 0 0 0) [.error] [0x10000000, 0xFFFFFFF6, 0x0000012C, 0x00000080])) (fun t => decide
      (reply t = some [0x10000002] ∧
        t.committed = uni 0 0 0 ∧
        t.display = .unknown ∧
        t.trace = booted ++
          [.tx [0x00, 0x00, 0x00, 0xDB, 0x6D, 0xB6, 0x92, 0x49, 0x24, 0xD2, 0x49, 0x24] .error])) = true := by
  decide +kernel

/-- T4. -/
theorem test_setOne_T4 :
    shows (step (ready 2 (uni 7 7 7) [.ok] [0x11000000, 0, 1, 1, 1])) (fun t => decide
      (reply t = some [0x11000000] ∧
        t.committed = .addressable [⟨1, 1, 1⟩, ⟨7, 7, 7⟩] ∧
        t.display = .known [⟨1, 1, 1⟩, ⟨7, 7, 7⟩] ∧
        t.trace = booted ++
          [.tx [0x00, 0x00, 0x00, 0x92, 0x49, 0x26, 0x92, 0x49, 0x26, 0x92, 0x49, 0x26, 0x92, 0x49, 0xB6,
                0x92, 0x49, 0xB6, 0x92, 0x49, 0xB6] .ok])) = true := by
  decide +kernel

/-- T5 (the verdict stays unused). -/
theorem test_setOne_T5 :
    shows (step (ready 2 (uni 7 7 7) [.error] [0x11000000, 2, 1, 1, 1])) (fun t => decide
      (reply t = some [0x11000001] ∧
        t.committed = uni 7 7 7 ∧
        t.trace = booted ∧
        t.answers = [.error])) = true := by
  decide +kernel

/-- G1. -/
theorem test_getState_G1 :
    shows (step (ready 1 (uni 0 255 128) [] [0x12000000])) (fun t => decide
      (reply t = some [0x12000000, 0x00000000, 0x00000001, 0x0000FF80] ∧
        t.committed = uni 0 255 128)) = true := by
  decide +kernel

/-- G3. -/
theorem test_getState_G3 :
    shows (step (ready 2 (.addressable [⟨1, 2, 3⟩, ⟨4, 5, 6⟩]) [] [0x12000000])) (fun t => decide
      (reply t = some [0x12000000, 0x00000001, 0x00000002, 0x00010203, 0x00040506])) = true := by
  decide +kernel

/-- W4: with no LED no call is made. -/
theorem test_sweep_W4 :
    shows (step (ready 0 (uni 0 0 0) [] [0x13000000, 0x10, 0x3E8])) (fun t => decide
      (reply t = some [0x13000000] ∧
        t.committed = uni 0 0 0 ∧
        t.trace = booted)) = true := by
  decide +kernel

/-- W5, there with P = 0: the third step fails, the second stays committed, two waits of 10 microseconds. -/
theorem test_sweep_W5 :
    shows (step ({ ready 3 (uni 0 0 0) [.ok, .ok, .error] [0x13000000, 255, 10] with
      cfg := { Config.standard with n := 3, p := 0 } })) (fun t => decide
      (reply t = some [0x13000002] ∧
        t.committed = .addressable [⟨0, 0, 0⟩, ⟨255, 255, 255⟩, ⟨0, 0, 0⟩] ∧
        t.display = .unknown ∧ t.waitedUs = 20 ∧
        t.trace = booted ++
          [.tx [0xDB, 0x6D, 0xB6, 0xDB, 0x6D, 0xB6, 0xDB, 0x6D, 0xB6, 0x92, 0x49, 0x24, 0x92, 0x49, 0x24,
                 0x92, 0x49, 0x24, 0x92, 0x49, 0x24, 0x92, 0x49, 0x24, 0x92, 0x49, 0x24] .ok,
            .tx [0x92, 0x49, 0x24, 0x92, 0x49, 0x24, 0x92, 0x49, 0x24, 0xDB, 0x6D, 0xB6, 0xDB, 0x6D, 0xB6,
                 0xDB, 0x6D, 0xB6, 0x92, 0x49, 0x24, 0x92, 0x49, 0x24, 0x92, 0x49, 0x24] .ok,
            .tx [0x92, 0x49, 0x24, 0x92, 0x49, 0x24, 0x92, 0x49, 0x24, 0x92, 0x49, 0x24, 0x92, 0x49, 0x24,
                 0x92, 0x49, 0x24, 0xDB, 0x6D, 0xB6, 0xDB, 0x6D, 0xB6, 0xDB, 0x6D, 0xB6] .error])) = true := by
  decide +kernel

/-- SD1. -/
theorem test_shutdown_SD1 :
    shows (step (ready 1 (uni 1 2 3) [.ok] [0x20000000])) (fun t => decide
      (reply t = some [0x20000000] ∧
        t.phase = .halted ∧
        t.handle = .closed ∧
        t.trace = booted ++ [.close .ok] ∧
        t.committed = uni 1 2 3)) = true := by
  decide +kernel

/-- SD2: a failed close halts all the same. -/
theorem test_shutdown_SD2 :
    shows (step (ready 1 (uni 1 2 3) [.error] [0x20000000])) (fun t => decide
      (reply t = some [0x20000002] ∧
        t.phase = .halted ∧
        t.handle = .closed ∧
        t.trace = booted ++ [.close .error])) = true := by
  decide +kernel

/-! ## The order of the checks (E vectors) -/

/-- E1. -/
theorem test_illegal_E1 :
    shows (step (ready 8 (uni 0 0 0) [] [])) (fun t => decide
      (reply t = some [0x00000003])) = true := by
  decide +kernel

/-- E6: E_ILLEGAL before E_VALIDATION. -/
theorem test_illegal_E6 :
    shows (step (ready 8 (uni 0 0 0) [] [0x11000100, 9, 1, 2, 3])) (fun t => decide
      (reply t = some [0x11000003] ∧
        t.trace = booted)) = true := by
  decide +kernel

/-- E7: E_VALIDATION before E_TRANSPORT. -/
theorem test_validation_E7 :
    shows (step (ready 8 (uni 0 0 0) [.error] [0x11000000, 8, 1, 2, 3])) (fun t => decide
      (reply t = some [0x11000001] ∧
        t.trace = booted)) = true := by
  decide +kernel

/-- E8: a malformed SHUTDOWN halts nothing. -/
theorem test_illegal_E8 :
    shows (step (ready 8 (uni 0 0 0) [] [0x20000001])) (fun t => decide
      (reply t = some [0x20000003] ∧
        t.phase = .ready ∧
        t.handle = .opened 7)) = true := by
  decide +kernel

/-- E9: E_HALTED before E_ILLEGAL. -/
theorem test_halted_E9 :
    shows (step (haltedAt [0x7F000000])) (fun t => decide
      (reply t = some [0x7F000005] ∧
        t.phase = .halted)) = true := by
  decide +kernel

/-- E11: E_INIT before E_VALIDATION. -/
theorem test_failed_E11 :
    shows (step (failedAt [0x11000000, 99, 0, 0, 0])) (fun t => decide
      (reply t = some [0x11000004] ∧
        t.phase = .failed)) = true := by
  decide +kernel

/-- E12. -/
theorem test_failed_E12 :
    shows (step (failedAt [])) (fun t => decide
      (reply t = some [0x00000004])) = true := by
  decide +kernel

/-! ## The reset sequence and the channel -/

/-- The first step of P1: `open` and `set_clock_rate`, then READY. -/
theorem test_boot :
    shows (step ({ State.reset with answers := [.ok] })) (fun t => decide
      (t.phase = .ready ∧
        t.trace = booted ∧
        t.display = .unknown)) = true := by
  decide +kernel

/-- The first step of P5. -/
theorem test_boot_failed_P5 :
    shows (step ({ State.reset with answers := [.error] })) (fun t => decide
      (t.phase = .failed ∧
        t.initFault = true ∧
        t.handle = .closed ∧
        t.trace = [.openBus 0 0 .error])) = true := by
  decide +kernel

/-- The first step of P7: the boot sweep's two frames, then READY. -/
theorem test_boot_sweep_P7 :
    shows (step ({ State.resetWith { Config.standard with
        n := 2, bootSweep := true, defaultBrightness := 255, sweepDelayUs := 20000 } with
      answers := [.ok, .ok, .ok] })) (fun t => decide
      (t.phase = .ready ∧
        t.slots = [⟨none, none⟩] ∧
        t.committed = .addressable [⟨0, 0, 0⟩, ⟨255, 255, 255⟩] ∧
        t.waitedUs = 20000 ∧
        t.trace = booted ++
          [.tx [0x00, 0x00, 0x00, 0xDB, 0x6D, 0xB6, 0xDB, 0x6D, 0xB6, 0xDB, 0x6D, 0xB6, 0x92, 0x49, 0x24,
                 0x92, 0x49, 0x24, 0x92, 0x49, 0x24] .ok,
            .tx [0x00, 0x00, 0x00, 0x92, 0x49, 0x24, 0x92, 0x49, 0x24, 0x92, 0x49, 0x24, 0xDB, 0x6D, 0xB6,
                 0xDB, 0x6D, 0xB6, 0xDB, 0x6D, 0xB6] .ok])) = true := by
  decide +kernel

/-- R50. -/
theorem test_submit :
    shows (step ({ State.reset with moves := [.submit 0 [0x12000000]] })) (fun t => decide
      (t.slots = [⟨some [0x12000000], none⟩] ∧
        t.moves = [] ∧
        t.phase = .init)) = true := by
  decide +kernel

/-- R50, log 7: the reply leaves its slot. -/
theorem test_collect :
    shows (step ({ State.reset with slots := [⟨none, some [0x12000005]⟩], moves := [.collect 0] })) (fun t => decide
      (t.slots = [⟨none, none⟩] ∧
        t.moves = [])) = true := by
  decide +kernel

/-- R168. -/
theorem test_submit_twice :
    refuses (step { ready 1 (uni 0 0 0) [] [0x12000000] with moves := [.submit 0 [0x20000000]] })
      .submissionHasNoStep = true := by
  decide +kernel

/-- R39: `CLK_HZ = 0`. -/
theorem test_illegalReset :
    refuses (step { State.reset with moves := [.reset { Config.standard with clkHz := 0 }] })
      .illegalConfiguration = true := by
  decide +kernel

/-- A word placed with `withFetchWord` runs in the next step: ENC_BYTE 0x55 (P4 step 1). -/
theorem test_fetchWord :
    shows (step (State.reset.withFetchWord 64 0x00000055_01000000)) (fun t => decide
      (reply t = some [0x01000000, 0x009A69A6])) = true := by
  decide +kernel

/-! ## Witnesses

For every obligation with hypotheses, a state and operands that meet them all; for an obligation of several clauses,
one for each, where the clauses meet. -/

/-- Two LEDs, the next two verdicts Ok. -/
def bothOk : State := served 2 (uni 7 7 7) [.ok, .ok] []

/-- Two LEDs, the next verdict Error. -/
def firstFails : State := served 2 (uni 7 7 7) [.error] []

/-- Two LEDs, the second verdict Error. -/
def lastFails : State := served 2 (uni 7 7 7) [.ok, .error] []

/-- No LED. -/
def noLed : State := served 0 (uni 0 0 0) [] []

/-- A request in service in FAILED. -/
def inFailed : State := (failedAt []).setServing (some 0)

/-- A request in service in HALTED. -/
def inHalted : State := (haltedAt []).setServing (some 0)

/-- GET_STATE pending in READY. -/
def pendingGet : State := ready 2 (uni 7 7 7) [.ok] [0x12000000]

/-- SET_ALL pending in READY. -/
def pendingSet : State := ready 2 (uni 7 7 7) [.ok] [0x10000000, 1, 2, 3]

/-- SHUTDOWN pending in READY. -/
def pendingShutdown : State := ready 2 (uni 7 7 7) [.ok] [0x20000000]

theorem witness_DecodeOfEncodeIsTheRequest :
    Instr.wellFormed (.setOne (-2147483648) 2147483647 (-1) 255) = true := by decide +kernel

theorem witness_EncodeOfDecodeIsTheMessage :
    ∃ msg i, decode msg = .ok i := by exact ⟨[0x13000000, 0xFFFFFFFF, 0xFFFFFFFF], _, rfl⟩

theorem witness_ClampTakesTheNearestChannelValue :
    (-1 : Int) < 0 ∧ (255 : Int) < 256 ∧
    ((0 : Int) ≤ 0 ∧ (0 : Int) ≤ 255) ∧ ((0 : Int) ≤ 255 ∧ (255 : Int) ≤ 255) := by
  decide

theorem witness_SaturationLosesNothing : legalConfig Config.standard = true := by decide

theorem witness_SaturationLosesNothing_largest :
    legalConfig { Config.standard with n := 2147483647 } = true := by decide

theorem witness_ChannelEncodingIsEightSymbols : (0 : Nat) < 8 ∧ (7 : Nat) < 8 := by decide

theorem witness_StripBitsInOrder : (71 : Nat) < 72 ∧ ([⟨1, 2, 3⟩] : List Color)[0]? = some ⟨1, 2, 3⟩ := by decide

theorem witness_PackPlacesEveryBit : (7 : Nat) < 8 ∧ (pack [true])[0]? = some 0x80 := by decide

theorem witness_PackLeftJustifiesTheLastByte :
    ([] : List Bool).length = 8 * 0 ∧ 1 ≤ [true].length ∧ [true].length ≤ 7 := by decide

theorem witness_PackLeftJustifiesTheLastByte_seven :
    (List.replicate 8 true).length = 8 * 1 ∧ 1 ≤ (List.replicate 7 false).length ∧
    (List.replicate 7 false).length ≤ 7 := by
  decide

theorem witness_FrameByteLayout : (2 : Nat) < 3 ∧ ([⟨1, 2, 3⟩] : List Color)[0]? = some ⟨1, 2, 3⟩ := by decide

theorem witness_EveryLogicalBitBeginsHighAndEndsLow : 23 < 24 * ([⟨1, 2, 3⟩] : List Color).length := by decide

theorem witness_FrameTimeIsItsLevels : (List.replicate 8 black).length = Config.standard.n := by decide

/-- Of EncByteAnswersTheEncoding, EncPixelAnswersInWireOrder, SetAllCommitsOrRollsBack, GetStateAnswersTheSnapshot and
ShutdownClosesAndHalts, for both verdicts. -/
theorem witness_RequestsInReady :
    bothOk.phase = .ready ∧ bothOk.serving = some 0 ∧ bothOk.handle = .opened 7 ∧
    nextVerdict bothOk = .ok ∧ nextVerdict firstFails = .error := by
  decide +kernel

theorem witness_SetOne_badIndex :
    bothOk.phase = .ready ∧ bothOk.serving = some 0 ∧ ((-1 : Int) < 0 ∨ (bothOk.cfg.n : Int) ≤ -1) ∧
    ((2 : Int) < 0 ∨ (bothOk.cfg.n : Int) ≤ 2) := by
  decide +kernel

theorem witness_SetOne_goodIndex :
    bothOk.phase = .ready ∧ bothOk.serving = some 0 ∧ bothOk.handle = .opened 7 ∧ (1 : Nat) < bothOk.cfg.n ∧
    (1 : Int) = ((1 : Nat) : Int) := by
  decide +kernel

theorem witness_Sweep_noLed :
    noLed.phase = .ready ∧ noLed.serving = some 0 ∧ noLed.cfg.n = 0 ∧
    (∀ k, k < noLed.cfg.n → upcomingVerdict noLed k = .ok) := by
  decide +kernel

theorem witness_Sweep_allOk :
    bothOk.phase = .ready ∧ bothOk.serving = some 0 ∧ bothOk.handle = .opened 7 ∧
    (∀ k, k < bothOk.cfg.n → upcomingVerdict bothOk k = .ok) := by
  decide +kernel

theorem witness_Sweep_firstFails :
    firstFails.phase = .ready ∧ firstFails.serving = some 0 ∧ firstFails.handle = .opened 7 ∧
    0 < firstFails.cfg.n ∧ (∀ j, j < 0 → upcomingVerdict firstFails j = .ok) ∧
    upcomingVerdict firstFails 0 = .error := by
  decide +kernel

theorem witness_Sweep_lastFails :
    lastFails.phase = .ready ∧ lastFails.handle = .opened 7 ∧ 1 < lastFails.cfg.n ∧
    (∀ j, j < 1 → upcomingVerdict lastFails j = .ok) ∧ upcomingVerdict lastFails 1 = .error := by
  decide +kernel

/-- Of those clauses of ServiceChecksInOrder, FailedAndHaltedAnswerEveryRequest and FailedOpenIsFatal. -/
theorem witness_ServiceInFailedAndHalted :
    inFailed.phase = .failed ∧ inFailed.serving = some 0 ∧
    inHalted.phase = .halted ∧ inHalted.serving = some 0 := by
  decide +kernel

theorem witness_ServiceChecksInOrder_malformed :
    bothOk.phase = .ready ∧ bothOk.serving = some 0 ∧ malformed [] := by exact ⟨rfl, rfl, .inl rfl⟩

theorem witness_ServiceChecksInOrder_wellFormed :
    bothOk.phase = .ready ∧ bothOk.serving = some 0 ∧ ¬ malformed [0x20000000] ∧
    ∃ t, exec .shutdown bothOk = .next t := by
  refine ⟨rfl, rfl, ?_, _, rfl⟩
  rintro (h | ⟨cmd, ws, h, hm⟩)
  · exact absurd h (by decide)
  · cases h
    revert hm
    decide

theorem witness_RequestsWaitInInitAndBusy :
    State.reset.phase = .init ∧ ({ State.reset with phase := .busy } : State).phase = .busy := by decide

/-- SET_ONE with the last index, SWEEP, SET_ALL and SHUTDOWN. -/
theorem witness_TransportRequestsNeedAnOpenHandle :
    ∃ s : State, s.phase = .ready ∧ s.handle = .closed ∧ 0 < s.cfg.n ∧ 1 < s.cfg.n := by
  exact ⟨bothOk.setHandle .closed, by decide⟩

/-- SET_ALL and SHUTDOWN with no LED. -/
theorem witness_TransportRequestsNeedAnOpenHandle_noLed :
    ∃ s : State, s.phase = .ready ∧ s.handle = .closed ∧ s.cfg.n = 0 := by exact ⟨noLed.setHandle .closed, by decide⟩

theorem witness_ServiceLeavesOtherRequestersSlots :
    bothOk.serving = some 0 ∧ 1 ≠ 0 ∧ ∃ t, serveMessage [0x12000000] bothOk = .next t := by
  exact ⟨rfl, by decide, _, rfl⟩

theorem witness_ErrorAnswersKeepCommitted :
    ∃ t, firstFails.serving = some 0 ∧ 0 < firstFails.slots.length ∧
    serveMessage [0x10000000, 1, 2, 3] firstFails = .next t ∧
    (slotAt 0 t).reply = some (response 0x10 .eTransport []) ∧ Status.eTransport ≠ .ok ∧
    ∀ b d, decode [0x10000000, 1, 2, 3] ≠ .ok (.sweep b d) := by
  exact ⟨_, rfl, by decide, rfl, rfl, by decide, fun _ _ h => (nomatch h)⟩

theorem witness_FailedSetIsInvisibleToGetState :
    ∃ t u v, nextVerdict firstFails = .error ∧ exec (.setAll 1 2 3) firstFails = .next t ∧
    exec .getState (t.setServing (some 0)) = .next u ∧
    exec .getState (firstFails.setServing (some 0)) = .next v := by
  exact ⟨_, _, _, rfl, rfl, rfl, rfl⟩

theorem witness_FailedSetIsInvisibleToGetState_setOne :
    ∃ t u, exec (.setOne 1 1 2 3) firstFails = .next t ∧
    exec .getState (t.setServing (some 0)) = .next u := by
  exact ⟨_, _, rfl, rfl⟩

theorem witness_SetOneChangesOneLed :
    ∃ t, bothOk.phase = .ready ∧ nextVerdict bothOk = .ok ∧ 1 < bothOk.cfg.n ∧
    stripWellFormed bothOk.cfg.n bothOk.committed = true ∧ exec (.setOne (1 : Nat) 1 2 3) bothOk = .next t := by
  exact ⟨_, rfl, rfl, by decide, rfl, rfl⟩

theorem witness_SetAllIsIdempotent :
    ∃ t u, upcomingVerdict bothOk 0 = .ok ∧ upcomingVerdict bothOk 1 = .ok ∧
    exec (.setAll 1 2 3) bothOk = .next t ∧ exec (.setAll 1 2 3) (t.setServing (some 0)) = .next u := by
  exact ⟨_, _, rfl, rfl, rfl, rfl⟩

theorem witness_LaterSetAllWins :
    ∃ t u, upcomingVerdict bothOk 0 = .ok ∧ upcomingVerdict bothOk 1 = .ok ∧
    exec (.setAll 1 2 3) bothOk = .next t ∧ exec (.setAll 4 5 6) (t.setServing (some 0)) = .next u := by
  exact ⟨_, _, rfl, rfl, rfl, rfl⟩

theorem witness_ResetValues : 0 < Config.standard.nreq := by decide

theorem witness_ResetKeepsNothing :
    ∃ s : State, s.moves = [.reset Config.standard] ∧ legalConfig Config.standard = true := by
  exact ⟨State.reset.setMoves [.reset Config.standard], rfl, by decide⟩

theorem witness_ResetKeepsNothing_illegal :
    ∃ (s : State) (c : Config), s.moves = [.reset c] ∧ legalConfig c = false := by
  exact ⟨State.reset.setMoves [.reset { Config.standard with clkHz := 0 }], _, rfl, by decide⟩

theorem witness_FailedOpenIsFatal :
    ∃ s : State, s.phase = .init ∧ s.moves = [] ∧ legalConfig s.cfg = true ∧ nextVerdict s = .error := by
  exact ⟨{ State.reset with answers := [.error] }, rfl, rfl, by decide, rfl⟩

theorem witness_ResetSequenceOpensAndSetsTheClock :
    ∃ s : State, s.phase = .init ∧ s.moves = [] ∧ legalConfig s.cfg = true ∧ nextVerdict s = .ok ∧
    s.cfg.bootSweep = false := by
  exact ⟨{ State.reset with answers := [.ok] }, rfl, rfl, by decide, rfl, rfl⟩

/-- INIT with N LEDs and a boot sweep configured. -/
def sweepsAtBoot (n : Nat) (vs : List Verdict) : State :=
  { State.resetWith { Config.standard with n := n, bootSweep := true } with answers := vs }

/-- What BootSweepRunsBeforeReady calls u, for the handle h. -/
def afterOpen (h : Nat) (s : State) : State :=
  { dropVerdict s with
    handle := .opened h
    draws := (dropVerdict s).draws + 1
    trace := s.trace ++ [.openBus s.cfg.busId s.cfg.deviceId .ok, .setClock s.cfg.clkHz] }

theorem witness_BootSweepRunsBeforeReady_noLed :
    ∃ s : State, s.phase = .init ∧ s.moves = [] ∧ legalConfig s.cfg = true ∧ nextVerdict s = .ok ∧
    s.cfg.bootSweep = true ∧ s.cfg.n = 0 ∧
    ∀ h, ∀ j < s.cfg.n, upcomingVerdict (afterOpen h s) j = .ok := by
  exact ⟨sweepsAtBoot 0 [.ok], rfl, rfl, by decide, rfl, rfl, rfl, fun _ => fun _ hj => (Nat.not_lt_zero _ hj).elim⟩

theorem witness_BootSweepRunsBeforeReady_allOk :
    ∃ s : State, s.phase = .init ∧ s.moves = [] ∧ legalConfig s.cfg = true ∧ nextVerdict s = .ok ∧
    s.cfg.bootSweep = true ∧ s.cfg.n = 2 ∧
    ∀ h, ∀ j < s.cfg.n, upcomingVerdict (afterOpen h s) j = .ok := by
  exact ⟨sweepsAtBoot 2 [.ok, .ok, .ok], rfl, rfl, by decide, rfl, rfl, rfl, fun _ => fun j hj => by
    have : j < 2 := hj
    interval_cases j <;> rfl⟩

theorem witness_BootSweepRunsBeforeReady_firstFails :
    ∃ s : State, s.phase = .init ∧ s.moves = [] ∧ legalConfig s.cfg = true ∧ nextVerdict s = .ok ∧
    s.cfg.bootSweep = true ∧ s.cfg.n = 2 ∧
    ∀ h, upcomingVerdict (afterOpen h s) 0 = .error := by
  exact ⟨sweepsAtBoot 2 [.ok, .error], rfl, rfl, by decide, rfl, rfl, rfl, fun _ => rfl⟩

theorem witness_BootSweepRunsBeforeReady_lastFails :
    ∃ s : State, s.phase = .init ∧ s.moves = [] ∧ legalConfig s.cfg = true ∧ nextVerdict s = .ok ∧
    s.cfg.bootSweep = true ∧ s.cfg.n = 2 ∧
    ∀ h, upcomingVerdict (afterOpen h s) 0 = .ok ∧ upcomingVerdict (afterOpen h s) 1 = .error := by
  exact ⟨sweepsAtBoot 2 [.ok, .ok, .error], rfl, rfl, by decide, rfl, rfl, rfl, fun _ => ⟨rfl, rfl⟩⟩

theorem witness_StepRunsTheDecodedRequest :
    pendingGet.moves = [] ∧ pendingGet.phase = .ready ∧
    arbiter none (pendingGet.setMoves []) = some (0, pendingGet) ∧
    (slotAt 0 pendingGet).pending = some [0x12000000] ∧ decode [0x12000000] = .ok .getState := by
  decide +kernel

theorem witness_StepRunsTheDecodedRequest_move :
    (pendingGet.setMoves [.block (some 0)]).moves = [.block (some 0)] ∧
    arbiter (some 0) (pendingGet.setMoves []) = some (0, pendingGet) := by
  decide +kernel

theorem witness_StepRunsTheDecodedRequest_malformed :
    ∃ s t : State, s.moves = [] ∧ s.phase = .ready ∧ arbiter none (s.setMoves []) = some (0, t) ∧
    (slotAt 0 t).pending = some [] ∧ malformed [] := by
  exact ⟨ready 2 (uni 7 7 7) [] [], _, rfl, rfl, rfl, rfl, .inl rfl⟩

theorem witness_EveryPendingRequestCanBeTaken :
    arbiter none pendingGet = some (0, pendingGet) ∧ (slotAt 0 pendingGet).pending.isSome = true := by decide +kernel

theorem witness_EveryPendingRequestCanBeTaken_none :
    ∃ s : State, s.phase = .ready ∧ s.moves = [] ∧ ∀ q, (slotAt q s).pending = none := by
  exact ⟨{ State.reset with phase := .ready, slots := [] }, rfl, rfl, fun _ => rfl⟩

theorem witness_SubmissionNeedsEmptySlots :
    ∃ s : State, s.moves = [.submit 0 []] ∧ s.slots[0]? = some ⟨none, none⟩ := by
  exact ⟨State.reset.setMoves [.submit 0 []], rfl, rfl⟩

theorem witness_SubmissionNeedsEmptySlots_full :
    ∃ (s : State) (x : Slot), s.moves = [.submit 0 []] ∧ s.slots[0]? = some x ∧ x ≠ ⟨none, none⟩ := by
  exact ⟨pendingGet.setMoves [.submit 0 []], _, rfl, rfl, by decide⟩

theorem witness_RequestersTouchOnlyTheirSlots_submit :
    ∃ s t : State, s.moves = [.submit 0 []] ∧ step s = .next t := by
  exact ⟨State.reset.setMoves [.submit 0 []], _, rfl, rfl⟩

theorem witness_RequestersTouchOnlyTheirSlots_collect :
    ∃ (s : State) (x : Slot), s.moves = [.collect 0] ∧ s.slots[0]? = some x := by
  exact ⟨State.reset.setMoves [.collect 0], _, rfl, rfl⟩

theorem witness_RequestersTouchOnlyTheirSlots_noSlot :
    ∃ s : State, s.moves = [.collect 1] ∧ s.slots[1]? = none := by
  exact ⟨State.reset.setMoves [.collect 1], rfl, rfl⟩

theorem witness_PhaseChangesOnlyAsTabled :
    ∃ t, step pendingShutdown = .next t ∧
    t.phase ≠ pendingShutdown.phase := by
  exact ⟨_, rfl, by decide⟩

theorem witness_OnlyResetWritesTheConfiguration :
    ∃ s t : State, step s = .next t ∧ t.cfg ≠ s.cfg := by
  exact ⟨State.reset.setMoves [.reset { Config.standard with p := 0 }], _, rfl, by decide⟩

theorem witness_FailedAndHaltedAreFinal :
    ∃ t u, (∀ c ms, (failedAt [0x12000000]).moves ≠ .reset c :: ms) ∧
    step (failedAt [0x12000000]) = .next t ∧ step (haltedAt [0x12000000]) = .next u := by
  exact ⟨_, _, fun _ _ h => (nomatch h), rfl, rfl⟩

/-! Safe states: two in READY with a request pending, one in HALTED. -/

theorem witness_SafeState_ready : SafeState pendingSet where
  legal := by decide
  slotCount := rfl
  oneOutstanding := by decide
  replies := fun x hx msg hm => by
    obtain rfl : x = ⟨some [0x10000000, 1, 2, 3], none⟩ := by simpa [pendingSet, ready] using hx
    cases hm
  committedOk := rfl
  stageEmpty := rfl
  idle := rfl
  handleOpen := ⟨fun _ => rfl, fun _ => ⟨7, rfl⟩⟩
  faultFailed := by decide
  displayShown := fun d hd => by cases hd
  shown := rfl
  traced := ⟨[], by simp, rfl⟩

theorem witness_SafeState_shutdown : SafeState pendingShutdown where
  legal := by decide
  slotCount := rfl
  oneOutstanding := by decide
  replies := fun x hx msg hm => by
    obtain rfl : x = ⟨some [0x20000000], none⟩ := by simpa [pendingShutdown, ready] using hx
    cases hm
  committedOk := rfl
  stageEmpty := rfl
  idle := rfl
  handleOpen := ⟨fun _ => rfl, fun _ => ⟨7, rfl⟩⟩
  faultFailed := by decide
  displayShown := fun d hd => by cases hd
  shown := rfl
  traced := ⟨[], by simp, rfl⟩

theorem witness_SafeState_halted : SafeState (haltedAt []) where
  legal := by decide
  slotCount := rfl
  oneOutstanding := by decide
  replies := fun x hx msg hm => by
    obtain rfl : x = ⟨some [], none⟩ := by simpa [haltedAt] using hx
    cases hm
  committedOk := rfl
  stageEmpty := rfl
  idle := rfl
  handleOpen := ⟨fun ⟨_, hh⟩ => (nomatch hh), fun h => (nomatch h)⟩
  faultFailed := by decide
  displayShown := fun d hd => by cases hd
  shown := rfl
  traced := ⟨[], .ok, by simp, rfl⟩

theorem witness_ResetIsSafe : legalConfig Config.standard = true := by decide

theorem witness_EveryStepKeepsSafety :
    ∃ t, SafeState pendingSet ∧
    step pendingSet = .next t := by
  exact ⟨_, witness_SafeState_ready, rfl⟩

theorem witness_PendingRequestIsAnsweredInOneTurn :
    ∃ s : State, SafeState s ∧ s.phase ≠ .init ∧ s.moves = [.block (some 0)] ∧
    (slotAt 0 s).pending = some [0x10000000, 1, 2, 3] := by
  exact ⟨pendingSet.setMoves [.block (some 0)],
    have ⟨a, b, c, d, e, f, g, h, i, j, k, l⟩ := witness_SafeState_ready
    ⟨a, b, c, d, e, f, g, h, i, j, k, l⟩,
    by decide, rfl, rfl⟩

/-- One step, in which SHUTDOWN closes the transport. -/
theorem witness_CloseHappensAtMostOnce :
    ∃ t before after v, SafeState pendingShutdown ∧ core.run 1 pendingShutdown = .next t ∧
    t.trace = before ++ .close v :: after := by
  exact ⟨_, booted, [], .ok, witness_SafeState_shutdown, rfl, rfl⟩

end Sys2Proof.Machine.Tests
end

section
/-! PROOFS. Messages over a byte-wide link (spec/00_scope.md R21, spec/20_memory.md R58, R62). One word is the only unit
the reader consumes, so the message follows by induction on its words. -/

namespace Sys2Proof.Machine

/-! ## One word -/

/-- Each append joins two adjacent fields of `w`; the last one covers the whole word. -/
theorem append_bytes_eq_word (w : Word) :
    w.extractLsb' 24 8 ++ w.extractLsb' 16 8 ++ w.extractLsb' 8 8 ++ w.extractLsb' 0 8 = w := by
  rw [BitVec.extractLsb'_append_extractLsb'_eq_extractLsb' (by rfl),
    BitVec.extractLsb'_append_extractLsb'_eq_extractLsb' (by rfl),
    BitVec.extractLsb'_append_extractLsb'_eq_extractLsb' (by rfl)]
  exact BitVec.extractLsb'_eq_self

@[simp] theorem length_wordBytes (o : ByteOrder) (w : Word) : (wordBytes o w).length = 4 := by
  cases o <;> rfl

/-- The two orders list the same four bytes; `bytesWord` undoes each order's listing. -/
@[simp] theorem linkWords_wordBytes_append (o : ByteOrder) (w : Word) (rest : List Byte) :
    linkWords o (wordBytes o w ++ rest) = (linkWords o rest).map (w :: ·) := by
  cases o with
  | big => simp [wordBytes, linkWords, bytesWord, append_bytes_eq_word]
  | little => simp [wordBytes, linkWords, bytesWord, append_bytes_eq_word]

/-! ## A message -/

@[simp] theorem linkBytes_nil (o : ByteOrder) : linkBytes o [] = [] := rfl

@[simp] theorem linkBytes_cons (o : ByteOrder) (w : Word) (msg : Message) :
    linkBytes o (w :: msg) = wordBytes o w ++ linkBytes o msg := rfl

theorem length_linkBytes (o : ByteOrder) (msg : Message) :
    (linkBytes o msg).length = 4 * msg.length := by
  induction msg with
  | nil => rfl
  | cons w msg ih =>
    simp only [linkBytes_cons, List.length_append, length_wordBytes, ih, List.length_cons]
    omega

theorem linkWords_linkBytes (o : ByteOrder) (msg : Message) :
    linkWords o (linkBytes o msg) = some msg := by
  induction msg with
  | nil => rfl
  | cons w msg ih => rw [linkBytes_cons, linkWords_wordBytes_append, ih, Option.map_some]

/-- Settles O8: the length and the round trip, each by induction on the words of the message. -/
theorem linkCarriesEveryMessage : Obligations.LinkCarriesEveryMessage :=
  fun o msg => ⟨length_linkBytes o msg, linkWords_linkBytes o msg⟩

end Sys2Proof.Machine
end

section
/-! PROOFS. SYMTAB (spec/10_state.md R40, R41): the table and the function `encByte` are the same thing. -/

namespace Sys2Proof.Machine

@[simp] theorem length_symtab : symtab.length = 256 := by
  simp [symtab]

@[simp] theorem symtab_getElem?_toNat (v : Byte) : symtab[v.toNat]? = some (encByte v) := by
  have hv : v.toNat < 256 := v.isLt
  simp [symtab, hv]

/-- R41: reading the table and computing the encoding give the same answer. -/
@[simp] theorem symtabAt_eq (v : Byte) : symtabAt v = encByte v := by
  simp [symtabAt, List.getD_eq_getElem?_getD]

/-- Settles O15: every channel value indexes the table, and there stands its encoding. -/
theorem symbolTableHoldsTheEncodings : Obligations.SymbolTableHoldsTheEncodings :=
  ⟨length_symtab, fun v => ⟨symtab_getElem?_toNat v, symtabAt_eq v⟩⟩

end Sys2Proof.Machine
end

section
/-! PROOFS. Runs of transactions: what SET_ALL, SET_ONE, SWEEP and the boot sweep do to the block before they answer
(spec/43_strip_transactions.md R125, R136). -/

namespace Sys2Proof.Machine

variable {s t : State}

/-- `t` is reached from `s` by waits and transactions alone. A transaction's new state is well formed wherever COMMITTED
is. -/
inductive Transacts : State → State → Prop where
  | done (s : State) : Transacts s s
  | wait {s t : State} (us : Nat) : Transacts (s.wait us) t → Transacts s t
  | transact {s t : State} (new : StripState) :
      (stripWellFormed s.cfg.n s.committed = true → stripWellFormed s.cfg.n new = true) →
      Transacts (transaction new s).2 t → Transacts s t

theorem Transacts.single (new : StripState)
    (hw : stripWellFormed s.cfg.n s.committed = true → stripWellFormed s.cfg.n new = true) :
    Transacts s (transaction new s).2 :=
  .transact new hw (.done _)

/-! ## What a transaction leaves unchanged -/

/-- The state with PHASE, the slots and the requester in service replaced: what the service procedure writes around a
request's own rule, none of which a transaction reads or writes. -/
def State.withService (p : Phase) (xs : List Slot) (q : Option Nat) (s : State) : State :=
  { s with phase := p, slots := xs, serving := q }

theorem transaction_withService (new : StripState) (p : Phase) (xs : List Slot) (q : Option Nat) (s : State) :
    (transaction new (s.withService p xs q)).2 = (transaction new s).2.withService p xs q := by
  cases hv : nextVerdict s with
  | ok => rw [transaction_ok new hv, transaction_ok new (s := s.withService p xs q) hv]; rfl
  | error => rw [transaction_error new hv, transaction_error new (s := s.withService p xs q) hv]; rfl

theorem Transacts.withService (h : Transacts s t) (p : Phase) (xs : List Slot) (q : Option Nat) :
    Transacts (s.withService p xs q) (t.withService p xs q) := by
  induction h with
  | done => exact .done _
  | wait us _ ih => exact .wait us ih
  | transact new hw _ ih => exact .transact new hw (transaction_withService new p xs q _ ▸ ih)

/-- A transaction writes COMMITTED, STAGE, DISPLAY, TRACE and the record of the transport's answers alone. -/
theorem transaction_frame (new : StripState) (s : State) :
    (transaction new s).2.phase = s.phase ∧ (transaction new s).2.cfg = s.cfg ∧
      (transaction new s).2.slots = s.slots ∧ (transaction new s).2.serving = s.serving := by
  cases hv : nextVerdict s with
  | ok => simp [transaction_ok new hv]
  | error => simp [transaction_error new hv]

theorem Transacts.frame (h : Transacts s t) :
    t.phase = s.phase ∧ t.cfg = s.cfg ∧ t.slots = s.slots ∧ t.serving = s.serving := by
  induction h with
  | done => exact ⟨rfl, rfl, rfl, rfl⟩
  | wait _ _ ih => exact ih
  | @transact s _ new _ _ ih =>
    obtain ⟨hp, hc, hx, hq⟩ := transaction_frame new s
    rwa [hp, hc, hx, hq] at ih

theorem Transacts.setPhase (h : Transacts s t) (p : Phase) : Transacts (s.setPhase p) (t.setPhase p) := by
  obtain ⟨-, -, hslots, hserving⟩ := h.frame
  have ht : t.setPhase p = t.withService p s.slots s.serving := by rw [← hslots, ← hserving]; rfl
  exact ht ▸ h.withService p s.slots s.serving

/-! ## The transactions of the requests and of the boot sweep -/

theorem stripWellFormed_sweepState (n i : Nat) (b : Byte) : stripWellFormed n (sweepState n i b) = true := by
  simp [stripWellFormed, sweepState]

theorem length_leds {n : Nat} {st : StripState} (h : stripWellFormed n st = true) : (leds n st).length = n := by
  cases st with
  | uniform c => simp [leds]
  | addressable pix => simpa [leds, stripWellFormed] using h

theorem stripWellFormed_setOneState (index : Nat) (c : Color) (h : stripWellFormed s.cfg.n s.committed = true) :
    stripWellFormed s.cfg.n (setOneState index c s) = true := by
  simp [stripWellFormed, setOneState, length_leds h]

theorem sweepSteps_transacts (b : Byte) (d : Nat) (is : List Nat) (s : State) :
    Transacts s (sweepSteps b d is s).2 := by
  induction is generalizing s with
  | nil => exact .done s
  | cons i rest ih =>
    suffices h : Transacts (sweepWait i d s) (sweepSteps b d (i :: rest) s).2 from
      .wait _ (sweepWait_eq i d ▸ h)
    refine .transact (sweepState s.cfg.n i b) (fun _ => ?_) ?_
    · simpa [sweepWait_eq] using stripWellFormed_sweepState s.cfg.n i b
    · rcases ht : transaction (sweepState s.cfg.n i b) (sweepWait i d s) with ⟨_ | _, t⟩
      · rw [sweepSteps_cons_ok b d i rest ht]
        exact ih t
      · rw [sweepSteps_cons_error b d i rest ht]
        exact .done t

theorem runSweep_transacts (b : Byte) (d : Nat) (s : State) : Transacts s (runSweep b d s).2 :=
  sweepSteps_transacts b d _ s

theorem bootSweep_transacts (s : State) : Transacts s (bootSweep s) := by
  cases hb : s.cfg.bootSweep with
  | false => rw [bootSweep_off hb]; exact .done s
  | true => rw [bootSweep_on hb]; exact runSweep_transacts _ _ s

end Sys2Proof.Machine
end

section
/-! PROOFS. Everything the service of a message, the reset sequence and so a step can do to the block
(spec/44_lifecycle.md R137 to R140, spec/60_exceptions.md R147), and from it R31 and R38. -/

namespace Sys2Proof.Machine

variable {s t u : State} {q : Nat} {op : Byte} {st : Status} {ws : List Word}

/-! ## The service of one message -/

/-- `Service q s t`: the service of a message of requester q may lead from `s` to `t` (R147). In FAILED and HALTED it only
answers; in READY it answers after some transactions, or closes the transport, answers and halts. -/
inductive Service (q : Nat) (s : State) : State → Prop where
  | refuses {reply : Message} (hp : s.phase = .failed ∨ s.phase = .halted) (hr : replyWellFormed reply) :
      Service q s (answered q reply s.phase s)
  | runs {reply : Message} {u : State} (hp : s.phase = .ready) (hu : Transacts s u) (hr : replyWellFormed reply) :
      Service q s (answered q reply .ready u)
  | closes {reply : Message} (hp : s.phase = .ready) (hr : replyWellFormed reply) :
      Service q s (answered q reply .halted (closeTransport s).2)

/-- The state in which the rule of q's request runs, once the service procedure has taken it in READY. -/
def taken (q : Nat) (s : State) : State :=
  (takeRequest (s.setServing (some q))).setPhase .busy

theorem serve_taken (body : State → Host.Outcome State Fault Refusal) (hp : s.phase = .ready) :
    serve op body (s.setServing (some q)) = body (taken q s) :=
  serve_ready body hp

theorem replyWellFormed_response (h : ws = [] ∨ st = .ok) : replyWellFormed (response op st ws) :=
  ⟨op, st, ws, rfl, h⟩

/-- A request's rule that makes only transactions and then answers. -/
theorem Service.of_complete (hp : s.phase = .ready) (hu : Transacts (taken q s) u) (hw : ws = [] ∨ st = .ok) :
    Service q s (complete op st ws .ready u) := by
  obtain ⟨-, -, hslots, hserving⟩ := hu.frame
  rw [complete_taken hserving hslots]
  change Service q s (answered q _ .ready (u.withService s.phase s.slots s.serving))
  exact .runs hp (hu.withService s.phase s.slots s.serving) (replyWellFormed_response hw)

theorem Service.of_answerVerdict {r : Verdict × State} (hp : s.phase = .ready) (hu : Transacts (taken q s) r.2) :
    Service q s (answerVerdict op r) :=
  .of_complete hp hu (.inl rfl)

/-- SHUTDOWN's rule. -/
theorem Service.of_answerClose (hp : s.phase = .ready) :
    Service q s (answerClose op (closeTransport (taken q s))) := by
  rw [answerClose, complete_taken (u := (closeTransport (taken q s)).2) rfl rfl]
  exact .closes hp (replyWellFormed_response (.inl rfl))

theorem onTransport_next {calls : Bool} {k : State → State} (h : onTransport calls k s = .next t) : t = k s := by
  rcases onTransport_cases (s := s) (calls := calls) k with hk | ⟨-, -, hk⟩ <;> rw [hk] at h <;> cases h
  rfl

theorem exec_ready_service (i : Instr) (hp : s.phase = .ready) (h : exec i (s.setServing (some q)) = .next t) :
    Service q s t := by
  cases i with
  | encByte v =>
    rw [exec, execEncByte, serve_taken _ hp] at h
    cases h
    exact .of_complete hp (.done _) (.inr rfl)
  | encPixel r g b =>
    rw [exec, execEncPixel, serve_taken _ hp] at h
    cases h
    exact .of_complete hp (.done _) (.inr rfl)
  | setAll r g b =>
    rw [exec, execSetAll, serve_taken _ hp] at h
    rw [onTransport_next h]
    exact .of_answerVerdict hp (.single _ fun _ => rfl)
  | setOne index r g b =>
    rw [exec, execSetOne, serve_taken _ hp] at h
    split at h
    · rw [onTransport_next h]
      exact .of_answerVerdict hp (.single _ fun hw => stripWellFormed_setOneState _ _ hw)
    · cases h
      exact .of_complete hp (.done _) (.inl rfl)
  | getState =>
    rw [exec, execGetState, serve_taken _ hp] at h
    cases h
    exact .of_complete hp (.done _) (.inr rfl)
  | sweep brightness delayUs =>
    rw [exec, execSweep, serve_taken _ hp] at h
    rw [onTransport_next h]
    exact .of_answerVerdict hp (runSweep_transacts _ _ _)
  | shutdown =>
    rw [exec, execShutdown, serve_taken _ hp] at h
    rw [onTransport_next h]
    exact .of_answerClose hp

/-- Every message's service, well formed or not, is the service procedure around some rule. -/
theorem serveMessage_eq_serve (msg : Message) : ∃ op body, ∀ s, serveMessage msg s = serve op body s := by
  unfold serveMessage
  cases decode msg with
  | ok i =>
    obtain ⟨body, hbody⟩ := exec_eq_serve i
    exact ⟨_, body, hbody⟩
  | error e => exact ⟨_, _, fun _ => rfl⟩

theorem serveMessage_ready_service (msg : Message) (hp : s.phase = .ready)
    (h : serveMessage msg (s.setServing (some q)) = .next t) : Service q s t := by
  unfold serveMessage at h
  split at h
  · exact exec_ready_service _ hp h
  · rw [serve_taken _ hp] at h
    cases h
    exact .of_complete hp (.done _) (.inl rfl)

theorem serveMessage_service (msg : Message) (hp : s.phase = .ready ∨ s.phase = .failed ∨ s.phase = .halted)
    (h : serveMessage msg (s.setServing (some q)) = .next t) : Service q s t := by
  obtain ⟨op, body, hserve⟩ := serveMessage_eq_serve msg
  rcases hp with hp | hp | hp
  · exact serveMessage_ready_service msg hp h
  · rw [hserve, serve_failed body (s := s.setServing (some q)) hp rfl] at h
    cases h
    rw [← hp]
    exact .refuses (.inl hp) (replyWellFormed_response (.inl rfl))
  · rw [hserve, serve_halted body (s := s.setServing (some q)) hp rfl] at h
    cases h
    rw [← hp]
    exact .refuses (.inr hp) (replyWellFormed_response (.inl rfl))

/-- A turn in which the block may take a request idles or serves one; the arbiter may draw a free value before. -/
theorem serveNext_service (pick : Option Nat) (hp : s.phase = .ready ∨ s.phase = .failed ∨ s.phase = .halted)
    (h : serveNext pick s = .next t) : t = s ∨ ∃ q u, (u = s ∨ u = s.bumpDraws) ∧ Service q u t := by
  rcases serveNext_cases pick h with rfl | ⟨q, u, msg, -, hu, hserve⟩
  · exact .inl rfl
  · refine .inr ⟨q, u, hu, serveMessage_service msg ?_ hserve⟩
    rcases hu with rfl | rfl <;> exact hp

theorem Service.phase (h : Service q s t) : t.phase = s.phase ∨ (s.phase = .ready ∧ t.phase = .halted) := by
  cases h with
  | refuses hp hr => exact .inl rfl
  | runs hp hu hr => exact .inl hp.symm
  | closes hp hr => exact .inr ⟨hp, rfl⟩

theorem Service.cfg (h : Service q s t) : t.cfg = s.cfg := by
  cases h with
  | refuses hp hr => rfl
  | runs hp hu hr => exact hu.frame.2.1
  | closes hp hr => rfl

theorem serveNext_frame (pick : Option Nat) (hp : s.phase = .ready ∨ s.phase = .failed ∨ s.phase = .halted)
    (h : serveNext pick s = .next t) :
    t.cfg = s.cfg ∧ (t.phase = s.phase ∨ (s.phase = .ready ∧ t.phase = .halted)) := by
  rcases serveNext_service pick hp h with rfl | ⟨q, u, rfl | rfl, hserve⟩
  · exact ⟨rfl, .inl rfl⟩
  · exact ⟨hserve.cfg, hserve.phase⟩
  · exact ⟨hserve.cfg, hserve.phase⟩

/-! ## The reset sequence -/

/-- FAILED, after `open` has returned Error (R139). -/
def openFailed (s : State) : State :=
  { dropVerdict s with
    phase := .failed
    initFault := true
    trace := s.trace ++ [.openBus s.cfg.busId s.cfg.deviceId .error] }

/-- READY with the handle h, after `open` and `set_clock_rate` (R137, R138) and before a boot sweep. -/
def openedReady (h : Nat) (s : State) : State :=
  (setClockRate { dropVerdict s with
    handle := .opened h
    draws := (dropVerdict s).draws + 1
    trace := s.trace ++ [.openBus s.cfg.busId s.cfg.deviceId .ok] }).setPhase .ready

@[simp] theorem openFailed_trace (s : State) :
    (openFailed s).trace = s.trace ++ [.openBus s.cfg.busId s.cfg.deviceId .error] := rfl

@[simp] theorem openedReady_trace (h : Nat) (s : State) :
    (openedReady h s).trace =
      s.trace ++ [.openBus s.cfg.busId s.cfg.deviceId .ok] ++ [.setClock s.cfg.clkHz] := rfl

/-- The reset sequence fails to open the transport, or opens it and makes the boot sweep's transactions. -/
theorem resetSequence_cases (s : State) :
    resetSequence s = openFailed s ∨ ∃ h, Transacts (openedReady h s) (resetSequence s) := by
  cases hv : nextVerdict s with
  | error =>
    left
    rw [resetSequence, openTransport_error hv]
    rfl
  | ok =>
    right
    obtain ⟨h, ho⟩ := openTransport_ok hv
    refine ⟨h, ?_⟩
    simp only [resetSequence, ho]
    exact (bootSweep_transacts _).setPhase .ready

theorem resetSequence_frame (s : State) :
    (resetSequence s).cfg = s.cfg ∧ ((resetSequence s).phase = .ready ∨ (resetSequence s).phase = .failed) := by
  rcases resetSequence_cases s with hf | ⟨h, ho⟩
  · rw [hf]
    exact ⟨rfl, .inr rfl⟩
  · obtain ⟨hphase, hcfg, -, -⟩ := ho.frame
    exact ⟨hcfg, .inl hphase⟩

/-! ## R31 and R38 -/

/-- Settles O53: the cases of a step. Only reset, the reset sequence and SHUTDOWN write another PHASE. -/
theorem phaseChangesOnlyAsTabled : Obligations.PhaseChangesOnlyAsTabled := by
  intro s t h hne
  rcases step_cases h with ⟨c, ms, hm, -, rfl⟩ | ⟨q, msg, ms, -, -, -, rfl⟩ | ⟨q, ms, -, rfl⟩ |
    ⟨pick, ms, -, ⟨hp, -, rfl⟩ | ⟨hp, hserve⟩⟩
  · exact .inl ⟨c, ms, hm, rfl⟩
  · exact absurd rfl hne
  · exact absurd rfl hne
  · exact .inr (.inl ⟨hp, (resetSequence_frame _).2⟩)
  · exact .inr (.inr ((serveNext_frame (s := s.setMoves ms) pick hp hserve).2.resolve_left hne))

/-- Settles O54: the cases of a step. Every one but reset keeps the configuration. -/
theorem onlyResetWritesTheConfiguration : Obligations.OnlyResetWritesTheConfiguration := by
  intro s t h hne
  rcases step_cases h with ⟨c, ms, hm, -, rfl⟩ | ⟨q, msg, ms, -, -, -, rfl⟩ | ⟨q, ms, -, rfl⟩ |
    ⟨pick, ms, -, ⟨hp, -, rfl⟩ | ⟨hp, hserve⟩⟩
  · exact ⟨ms, hm⟩
  · exact absurd rfl hne
  · exact absurd rfl hne
  · exact absurd (resetSequence_frame _).1 hne
  · exact absurd (serveNext_frame (s := s.setMoves ms) pick hp hserve).1 hne

end Sys2Proof.Machine
end

section
/-! PROOFS. The machine's invariant (spec/10_state.md R42 to R50, spec/20_memory.md R71, spec/44_lifecycle.md R141): it
holds at reset, and every update a step is made of keeps it. -/

namespace Sys2Proof.Machine

variable {s t : State} {q : Nat}

/-! ## TRACE and what was last transmitted -/

theorem lastOkFrame_append_ok (cs : List TransportCall) (bytes : List Byte) :
    lastOkFrame (cs ++ [.tx bytes .ok]) = some bytes := by
  simp [lastOkFrame]

theorem lastOkFrame_append_error (cs : List TransportCall) (bytes : List Byte) :
    lastOkFrame (cs ++ [.tx bytes .error]) = lastOkFrame cs := by
  simp [lastOkFrame]

theorem lastOkFrame_append_close (cs : List TransportCall) (v : Verdict) :
    lastOkFrame (cs ++ [.close v]) = lastOkFrame cs := by
  simp [lastOkFrame]

theorem committedShown_of_some {bytes : List Byte} (hl : lastOkFrame s.trace = some bytes) :
    committedShown s ↔ bytes = encFrame s.cfg.p (leds s.cfg.n s.committed) := by
  simp only [committedShown, hl]

/-- It depends on the last Ok frame, COMMITTED and the configuration alone. -/
theorem committedShown_of_eq (h : committedShown s) (hl : lastOkFrame t.trace = lastOkFrame s.trace)
    (hc : t.committed = s.committed) (hg : t.cfg = s.cfg) : committedShown t := by
  simpa only [committedShown, hl, hc, hg] using h

theorem traceShape_init (hp : s.phase = .init) : traceShape s ↔ s.trace = [] := by
  simp [traceShape, hp]

theorem traceShape_failed (hp : s.phase = .failed) :
    traceShape s ↔ s.trace = [.openBus s.cfg.busId s.cfg.deviceId .error] := by
  simp [traceShape, hp]

theorem traceShape_ready (hp : s.phase = .ready) :
    traceShape s ↔ ∃ frames, (∀ c ∈ frames, isTx c = true) ∧
      s.trace = .openBus s.cfg.busId s.cfg.deviceId .ok :: .setClock s.cfg.clkHz :: frames := by
  simp [traceShape, hp]

theorem traceShape_halted (hp : s.phase = .halted) :
    traceShape s ↔ ∃ frames v, (∀ c ∈ frames, isTx c = true) ∧
      s.trace = .openBus s.cfg.busId s.cfg.deviceId .ok :: .setClock s.cfg.clkHz :: (frames ++ [.close v]) := by
  simp [traceShape, hp]

/-- One more frame in READY. -/
theorem traceShape_tx (hp : s.phase = .ready) (ht : traceShape s) (bytes : List Byte) (v : Verdict) :
    traceShape (s.record (.tx bytes v)) := by
  obtain ⟨frames, hframes, htrace⟩ := (traceShape_ready hp).1 ht
  refine (traceShape_ready (s := s.record _) hp).2 ⟨frames ++ [.tx bytes v], ?_, ?_⟩
  · intro c hc
    rcases List.mem_append.1 hc with hc | hc
    · exact hframes c hc
    · rw [List.mem_singleton.1 hc]
      rfl
  · simp only [State.record_trace, State.record_cfg, htrace, List.cons_append]

/-- The `Close` that leads from READY to HALTED. -/
theorem traceShape_close (hp : s.phase = .ready) (ht : traceShape s) (v : Verdict) :
    traceShape ((s.record (.close v)).setPhase .halted) := by
  obtain ⟨frames, hframes, htrace⟩ := (traceShape_ready hp).1 ht
  exact (traceShape_halted rfl).2 ⟨frames, v, hframes, by simp [htrace]⟩

/-! ## Updates outside the block, and of the slots -/

/-- The invariant speaks of none of the model's own fields but `serving`. -/
theorem SafeState.outside (h : SafeState s) (us ds : Nat) (vs : List Verdict) (ms : List Move) :
    SafeState { s with waitedUs := us, draws := ds, answers := vs, moves := ms } where
  legal := h.legal
  slotCount := h.slotCount
  oneOutstanding := h.oneOutstanding
  replies := h.replies
  committedOk := h.committedOk
  stageEmpty := h.stageEmpty
  idle := h.idle
  handleOpen := h.handleOpen
  faultFailed := h.faultFailed
  displayShown := h.displayShown
  shown := h.shown
  traced := h.traced

theorem SafeState.setMoves (h : SafeState s) (ms : List Move) : SafeState (s.setMoves ms) :=
  h.outside _ _ _ ms

theorem SafeState.bumpDraws (h : SafeState s) : SafeState s.bumpDraws :=
  h.outside _ _ _ _

theorem SafeState.dropVerdict (h : SafeState s) : SafeState (dropVerdict s) :=
  h.outside _ _ _ _

theorem SafeState.wait (h : SafeState s) (us : Nat) : SafeState (s.wait us) :=
  h.outside _ _ _ _

/-- R50: slots that do not hold both a request and a reply, and no reply but a response, may replace a requester's. -/
theorem SafeState.setSlot (h : SafeState s) {x : Slot} (hx : x.pending = none ∨ x.reply = none)
    (hr : ∀ msg, x.reply = some msg → replyWellFormed msg) : SafeState (s.setSlot q x) where
  legal := h.legal
  slotCount := by simpa using h.slotCount
  oneOutstanding := fun y hy => by
    rcases List.mem_or_eq_of_mem_set hy with hy | rfl
    · exact h.oneOutstanding y hy
    · exact hx
  replies := fun y hy => by
    rcases List.mem_or_eq_of_mem_set hy with hy | rfl
    · exact h.replies y hy
    · exact hr
  committedOk := h.committedOk
  stageEmpty := h.stageEmpty
  idle := h.idle
  handleOpen := h.handleOpen
  faultFailed := h.faultFailed
  displayShown := h.displayShown
  shown := h.shown
  traced := h.traced

theorem SafeState.answered (h : SafeState s) {reply : Message} (hr : replyWellFormed reply) :
    SafeState (answered q reply s.phase s) := by
  have heq : Machine.answered q reply s.phase s = s.setSlot q ⟨none, some reply⟩ := by
    apply State.ext <;> simp [h.stageEmpty, h.idle]
  rw [heq]
  exact h.setSlot (.inl rfl) fun msg hmsg => Option.some.inj hmsg ▸ hr

/-! ## Transport calls -/

/-- R71, R126, R127: the verdict decides whether COMMITTED, DISPLAY and the last Ok frame move together, or COMMITTED and
that frame stay and the LEDs are unknown. -/
theorem SafeState.transaction (h : SafeState s) (hp : s.phase = .ready) {new : StripState}
    (hw : stripWellFormed s.cfg.n new = true) : SafeState (transaction new s).2 := by
  have traced := traceShape_tx hp h.traced (encFrame s.cfg.p (leds s.cfg.n new))
  cases hv : nextVerdict s with
  | ok =>
    rw [transaction_ok new hv]
    exact {
      h.dropVerdict with
      committedOk := hw
      stageEmpty := rfl
      displayShown := fun d hd => by cases hd; rfl
      shown := (committedShown_of_some (lastOkFrame_append_ok _ _)).2 rfl
      traced := traced .ok }
  | error =>
    rw [transaction_error new hv]
    exact {
      h.dropVerdict with
      stageEmpty := rfl
      displayShown := fun d hd => by cases hd
      shown := committedShown_of_eq h.shown (lastOkFrame_append_error _ _) rfl rfl
      traced := traced .error }

theorem SafeState.transacts (h : SafeState s) (hp : s.phase = .ready) (ht : Transacts s t) : SafeState t := by
  induction ht with
  | done => exact h
  | wait us _ ih => exact ih (h.wait us) hp
  | @transact s _ new hw _ ih =>
    have hphase : (Machine.transaction new s).2.phase = .ready := (transaction_frame new s).1.trans hp
    exact ih (h.transaction hp (hw h.committedOk)) hphase

/-- R140: SHUTDOWN's call, once the block is HALTED. -/
theorem SafeState.close (h : SafeState s) (hp : s.phase = .ready) :
    SafeState ((closeTransport s).2.setPhase .halted) :=
  { h.dropVerdict with
    handleOpen := iff_of_false (fun ⟨_, hh⟩ => nomatch hh) nofun
    faultFailed := iff_of_false (mt h.faultFailed.1 (by simp [hp])) nofun
    shown := committedShown_of_eq h.shown (lastOkFrame_append_close _ _) rfl rfl
    traced := traceShape_close hp h.traced _ }

theorem SafeState.service (h : SafeState s) (hs : Service q s t) : SafeState t := by
  cases hs with
  | refuses hp hr => exact h.answered hr
  | @runs reply u hp hu hr =>
    have hphase : u.phase = .ready := hu.frame.1.trans hp
    have := (h.transacts hp hu).answered (q := q) hr
    rwa [hphase] at this
  | closes hp hr => exact (h.close hp).answered hr

theorem SafeState.serveNext (h : SafeState s) (pick : Option Nat)
    (hp : s.phase = .ready ∨ s.phase = .failed ∨ s.phase = .halted) (hs : serveNext pick s = .next t) :
    SafeState t := by
  rcases serveNext_service pick hp hs with rfl | ⟨q, u, rfl | rfl, hserve⟩
  · exact h
  · exact h.service hserve
  · exact h.bumpDraws.service hserve

/-! ## Reset and the reset sequence -/

theorem safeState_resetWith {c : Config} (hc : legalConfig c = true) : SafeState (State.resetWith c) where
  legal := hc
  slotCount := List.length_replicate
  oneOutstanding := fun x hx => .inl (List.eq_of_mem_replicate hx ▸ rfl)
  replies := fun x hx msg hmsg => by
    rw [List.eq_of_mem_replicate hx] at hmsg
    cases hmsg
  committedOk := by
    simp only [legalConfig, Bool.and_eq_true] at hc
    exact hc.2
  stageEmpty := rfl
  idle := rfl
  handleOpen := iff_of_false (fun ⟨_, hh⟩ => nomatch hh) nofun
  faultFailed := iff_of_false nofun nofun
  displayShown := fun d hd => by cases hd
  shown := rfl
  traced := rfl

/-- R139. -/
theorem SafeState.openFailed (h : SafeState s) (hp : s.phase = .init) : SafeState (openFailed s) := by
  have htrace : s.trace = [] := (traceShape_init hp).1 h.traced
  exact {
    h.dropVerdict with
    handleOpen := iff_of_false (mt h.handleOpen.1 (by simp [hp])) nofun
    faultFailed := iff_of_true rfl rfl
    shown := committedShown_of_eq h.shown (by simp [htrace, lastOkFrame]) rfl rfl
    traced := (traceShape_failed rfl).2 (congrArg (· ++ _) htrace) }

/-- R137, R138. -/
theorem SafeState.openedReady (h : SafeState s) (hp : s.phase = .init) (k : Nat) : SafeState (openedReady k s) := by
  have htrace : s.trace = [] := (traceShape_init hp).1 h.traced
  exact {
    h.dropVerdict with
    handleOpen := iff_of_true ⟨k, rfl⟩ rfl
    faultFailed := iff_of_false (mt h.faultFailed.1 (by simp [hp])) nofun
    shown := committedShown_of_eq h.shown (by simp [htrace, lastOkFrame]) rfl rfl
    traced := (traceShape_ready rfl).2 ⟨[], nofun, congrArg (· ++ _ ++ _) htrace⟩ }

theorem SafeState.resetSequence (h : SafeState s) (hp : s.phase = .init) : SafeState (resetSequence s) := by
  rcases resetSequence_cases s with hf | ⟨k, hsweep⟩
  · exact hf ▸ h.openFailed hp
  · exact (h.openedReady hp k).transacts rfl hsweep

/-! ## The invariant -/

/-- Settles O56: the reset values of section 10 meet each field of the invariant. -/
theorem resetIsSafe : Obligations.ResetIsSafe :=
  fun _ hc => safeState_resetWith hc

/-- Settles O57: the cases of a step, each by the lemma that its update keeps the invariant. -/
theorem everyStepKeepsSafety : Obligations.EveryStepKeepsSafety := by
  intro s t hs h
  rcases step_cases h with ⟨c, ms, -, hc, rfl⟩ | ⟨q, msg, ms, -, -, -, rfl⟩ | ⟨q, ms, -, rfl⟩ |
    ⟨pick, ms, -, ⟨hp, -, rfl⟩ | ⟨hp, hserve⟩⟩
  · exact (safeState_resetWith hc).outside _ _ _ ms
  · exact (hs.setSlot (.inr rfl) fun _ hmsg => by cases hmsg).setMoves ms
  · exact (hs.setSlot (.inr rfl) fun _ hmsg => by cases hmsg).setMoves ms
  · exact (hs.setMoves ms).resetSequence hp
  · exact (hs.setMoves ms).serveNext pick hp hserve

end Sys2Proof.Machine
end

section
/-! PROOFS. The frame on the line (spec/20_memory.md R57, spec/42_frame_encoder.md R112 to R116): the transport's bit order
undoes the byte packer on whole bytes, and a strip's bits are always whole bytes. -/

namespace Sys2Proof.Machine

/-! ## The bits of a byte -/

theorem byteOfBits_concat (bs : List Bool) (b : Bool) :
    byteOfBits (bs ++ [b]) = (byteOfBits bs <<< 1) ||| (BitVec.ofBool b).setWidth 8 := by
  simp [byteOfBits]

/-- R114: the last bit is the least significant one. -/
theorem byteOfBits_getLsbD (bs : List Bool) {j : Nat} (hj : j < 8) :
    (byteOfBits bs).getLsbD j = bs.reverse.getD j false := by
  induction bs using List.reverseRecOn generalizing j with
  | nil => simp [byteOfBits]
  | append_singleton bs b ih =>
    cases j with
    | zero => simp [byteOfBits_concat]
    | succ j =>
      have hj' : j < 8 := Nat.lt_of_succ_lt hj
      simpa [byteOfBits_concat, hj, BitVec.getLsbD_eq_getElem hj'] using ih hj'

/-- Eight bits are the byte's bits, most significant first. -/
theorem bitsMsb_byteOfBits (bs : List Bool) (h : bs.length = 8) : bitsMsb (byteOfBits bs) = bs := by
  refine List.ext_getElem (by rw [bitsMsb_length, h]) fun t ht _ => ?_
  rw [bitsMsb_length] at ht
  have hr : 7 - t < bs.reverse.length := by rw [List.length_reverse]; omega
  have ht' : bs.length - 1 - (7 - t) = t := by omega
  calc (bitsMsb (byteOfBits bs))[t] = (byteOfBits bs).getLsbD (7 - t) := by simp [bitsMsb, BitVec.getMsbD, ht]
    _ = bs.reverse.getD (7 - t) false := byteOfBits_getLsbD bs (by omega)
    _ = bs[t] := by simp only [List.getD_eq_getElem _ _ hr, List.getElem_reverse, ht']

/-! ## Levels on the line -/

@[simp] theorem lineLevels_nil : lineLevels [] = [] := rfl

@[simp] theorem lineLevels_cons (x : Byte) (xs : List Byte) :
    lineLevels (x :: xs) = bitsMsb x ++ lineLevels xs := rfl

@[simp] theorem lineLevels_append (xs ys : List Byte) :
    lineLevels (xs ++ ys) = lineLevels xs ++ lineLevels ys :=
  List.flatMap_append

theorem bitsMsb_zero (w : Nat) : bitsMsb (0 : BitVec w) = List.replicate w false := by
  simp [bitsMsb]

/-- R116: the preamble holds the line low. -/
theorem lineLevels_preamble (p : Nat) : lineLevels (preamble p) = List.replicate (8 * p) false := by
  rw [lineLevels, preamble, List.flatMap_replicate, bitsMsb_zero, List.flatten_replicate_replicate, Nat.mul_comm]

/-- R57, R113: on whole bytes the transport's bit order undoes the packer. -/
theorem lineLevels_pack (k : Nat) (bs : List Bool) (h : bs.length = 8 * k) : lineLevels (pack bs) = bs := by
  induction k generalizing bs with
  | zero =>
    obtain rfl : bs = [] := List.length_eq_zero_iff.1 h
    rfl
  | succ k ih =>
    obtain ⟨_, _, _, _, _, _, _, _, rest, rfl⟩ := exists_eight_of_length bs (by omega)
    have hrest : rest.length = 8 * k := by simp only [List.length_cons] at h; omega
    rw [pack_eight, lineLevels_cons, ih rest hrest, bitsMsb_byteOfBits _ rfl]
    rfl

/-! ## The strip -/

theorem length_stripBits (s : List Color) : (stripBits s).length = 72 * s.length := by
  simp [stripBits, bitsMsb_length, Nat.mul_comm]

/-- Settles O23: the preamble's levels are low, and the packed strip is 9N whole bytes (R115). -/
theorem lineCarriesPreambleAndStripBits : Obligations.LineCarriesPreambleAndStripBits := by
  intro p s
  have hwhole : (stripBits s).length = 8 * (9 * s.length) := by rw [length_stripBits]; omega
  rw [encFrame, lineLevels_append, lineLevels_preamble, lineLevels_pack _ _ hwhole]

end Sys2Proof.Machine
end

section
/-! PROOFS. SET_ALLs served in succession (spec/20_memory.md R66, R72). Each is one transaction whose verdict is Ok; what
the second one commits and sends does not depend on what the first one committed. -/

namespace Sys2Proof.Machine

variable {s t u : State} {q q' : Nat} {r g b r' g' b' : Int}

/-- The block once `new` has been sent with verdict Ok and committed (R126), before it is answered. -/
def transmitted (new : StripState) (s : State) : State :=
  { dropVerdict s with
    committed := new
    display := .known (leds s.cfg.n new)
    trace := s.trace ++ [.tx (encFrame s.cfg.p (leds s.cfg.n new)) .ok] }

@[simp] theorem transmitted_cfg (new : StripState) : (transmitted new s).cfg = s.cfg := rfl
@[simp] theorem transmitted_committed (new : StripState) : (transmitted new s).committed = new := rfl
@[simp] theorem transmitted_display (new : StripState) :
    (transmitted new s).display = .known (leds s.cfg.n new) := rfl
@[simp] theorem transmitted_trace (new : StripState) :
    (transmitted new s).trace = s.trace ++ [.tx (encFrame s.cfg.p (leds s.cfg.n new)) .ok] := rfl

theorem takeRequest_slots_of_serving (hq : s.serving = some q) :
    (takeRequest s).slots = takenSlots (some q) s.slots := by
  rw [takeRequest_slots, hq]

/-- The answer of a request that has been taken and whose one transaction went well (R132). -/
theorem answerVerdict_transaction_ok (op : Byte) (new : StripState) (hq : s.serving = some q)
    (hv : nextVerdict s = .ok) :
    answerVerdict op (transaction new ((takeRequest s).setPhase .busy)) =
      answered q (response op .ok []) .ready (transmitted new s) := by
  have htaken : nextVerdict ((takeRequest s).setPhase .busy) = .ok := hv ▸ nextVerdict_congr rfl rfl
  rw [transaction_ok new htaken, answerVerdict, complete_taken (s := s) (q := q)]
  · rfl
  · exact hq
  · exact takeRequest_slots_of_serving hq

/-- R132: a SET_ALL with verdict Ok, with its whole next state. -/
theorem exec_setAll_ok (hp : s.phase = .ready) (hq : s.serving = some q) (hv : nextVerdict s = .ok)
    (h : exec (.setAll r g b) s = .next t) :
    t = answered q (response (opcodeByte .setAll) .ok []) .ready
      (transmitted (.uniform (clampColor r g b)) s) := by
  rw [exec, execSetAll, serve_ready _ hp] at h
  rw [onTransport_next h, answerVerdict_transaction_ok _ _ hq hv]

/-- The second of two SET_ALLs runs where the first has left the block, with the transport's next verdict but one. -/
theorem exec_setAll_setAll_ok (hp : s.phase = .ready) (hq : s.serving = some q)
    (hv : upcomingVerdict s 0 = .ok) (hv' : upcomingVerdict s 1 = .ok)
    (h : exec (.setAll r g b) s = .next t) (h' : exec (.setAll r' g' b') (t.setServing (some q')) = .next u) :
    t = answered q (response (opcodeByte .setAll) .ok []) .ready
        (transmitted (.uniform (clampColor r g b)) s) ∧
      u = answered q' (response (opcodeByte .setAll) .ok []) .ready
        (transmitted (.uniform (clampColor r' g' b')) t) := by
  obtain rfl := exec_setAll_ok hp hq ((nextVerdict_eq_upcoming s).trans hv) h
  refine ⟨rfl, exec_setAll_ok (s := State.setServing _ _) rfl rfl ?_ h'⟩
  calc nextVerdict _ = nextVerdict (dropVerdict s) := nextVerdict_congr rfl rfl
    _ = upcomingVerdict s 1 := by rw [nextVerdict_eq_upcoming, upcomingVerdict_drop]
    _ = .ok := hv'

/-- Settles O42: both services send the frame of the same color under the same configuration, and commit it. -/
theorem setAllIsIdempotent : Obligations.SetAllIsIdempotent := by
  intro s t u q q' r g b hp hq hv hv' h h'
  obtain ⟨rfl, rfl⟩ := exec_setAll_setAll_ok hp hq hv hv' h h'
  refine ⟨rfl, rfl, encFrame s.cfg.p (leds s.cfg.n (.uniform (clampColor r g b))), ?_⟩
  simp

/-- Settles O43: the later service overwrites COMMITTED, and its frame is the last entry of TRACE. -/
theorem laterSetAllWins : Obligations.LaterSetAllWins := by
  intro s t u q q' r g b r' g' b' hp hq hv hv' h h'
  obtain ⟨rfl, rfl⟩ := exec_setAll_setAll_ok hp hq hv hv' h h'
  exact ⟨rfl, lastOkFrame_append_ok _ _⟩

end Sys2Proof.Machine
end

section
/-! PROOFS. What requesters do themselves (spec/10_state.md R50, spec/20_memory.md R73), and which of them the block takes
(R68). -/

namespace Sys2Proof.Machine

variable {s t : State} {q : Nat}

/-! ## Moves of the requesters -/

/-- A step with a move ahead makes that move. -/
theorem step_move {m : Move} {ms : List Move} (h : s.moves = m :: ms) : step s = performMove m (s.setMoves ms) := by
  simp [step, advance, h]

theorem submit_next {msg : Message} (h : submit q msg s = .next t) : t = s.setSlot q ⟨some msg, none⟩ := by
  unfold submit at h
  split at h
  · split at h <;> cases h
    rfl
  · cases h

theorem collect_of_slot {x : Slot} (h : s.slots[q]? = some x) :
    collect q s = .next (s.setSlot q ⟨x.pending, none⟩) := by
  have hq : q < s.slots.length := (List.getElem?_eq_some_iff.1 h).1
  simp [collect, hq, slotAt_of_getElem? h]

theorem collect_of_no_slot (h : s.slots[q]? = none) : collect q s = .refused .noSuchRequester := by
  have hq : s.slots.length ≤ q := List.getElem?_eq_none_iff.1 h
  simp [collect, Nat.not_lt.2 hq]

/-- Settles O52: each move is one update of the requester's own slots. -/
theorem requestersTouchOnlyTheirSlots : Obligations.RequestersTouchOnlyTheirSlots := by
  refine ⟨fun s t q msg ms hm h => ?_, fun s q x ms hm hx => ?_, fun s q ms hm hx => ?_⟩
  · rw [step_move hm] at h
    exact submit_next h
  · rw [step_move hm]
    exact collect_of_slot (s := s.setMoves ms) hx
  · rw [step_move hm]
    exact collect_of_no_slot (s := s.setMoves ms) hx

/-! ## The arbiter's choice -/

theorem arbiter_keeps_slots_phase {pick : Option Nat} (h : arbiter pick s = some (q, t)) :
    t.slots = s.slots ∧ t.phase = s.phase := by
  rcases (arbiter_cases pick h).2 with rfl | rfl <;> exact ⟨rfl, rfl⟩

/-- R68: a choice that names a pending request is followed, also where it is the only one. -/
theorem arbiter_pick (h : q ∈ pendingRequesters s) : arbiter (some q) s = some (q, s) := by
  unfold arbiter
  split
  · rename_i hnone
    rw [hnone] at h
    cases h
  · rename_i q₁ hone
    rw [hone, List.mem_singleton] at h
    rw [h]
  · simp [h]

theorem arbiter_none_pending (pick : Option Nat) (h : pendingRequesters s = []) : arbiter pick s = none := by
  simp [arbiter, h]

theorem serveNext_idle {pick : Option Nat} (h : arbiter pick s = none) : serveNext pick s = .next s := by
  simp [serveNext, h]

/-- R30: with no move ahead and nothing pending, READY is left as it is. -/
theorem step_idle (hp : s.phase = .ready) (hm : s.moves = []) (h : pendingRequesters s = []) :
    step s = .next s := by
  have hs : s.setMoves [] = s := by rw [← hm]; rfl
  rw [step_block none [] (.inr ⟨hm, rfl, rfl⟩), hs, blockTurn_serves none (.inl hp),
    serveNext_idle (arbiter_none_pending none h)]

/-- Settles O50: the arbiter's cases, its choice where one is named, and the turn without a request. -/
theorem everyPendingRequestCanBeTaken : Obligations.EveryPendingRequestCanBeTaken := by
  refine ⟨fun s t pick q h => ?_, fun s q h => arbiter_pick (mem_pendingRequesters.2 h), fun s hp hm h => ?_⟩
  · exact ⟨mem_pendingRequesters.1 (arbiter_cases pick h).1, arbiter_keeps_slots_phase h⟩
  · refine step_idle hp hm (List.eq_nil_iff_forall_not_mem.2 fun q hq => ?_)
    simp [mem_pendingRequesters, h q] at hq

end Sys2Proof.Machine
end

section
/-! PROOFS. The turn in which the block takes a request (spec/20_memory.md R63, R69), and the answer to a malformed message
(spec/30_encoding.md R95, spec/60_exceptions.md R147). -/

namespace Sys2Proof

/-! ## A message that decodes has none of the four faults of R95 -/

theorem opcodeByte_of_opcodeOfByte {x : Byte} {op : Opcode} (h : opcodeOfByte x = some op) : opcodeByte op = x := by
  simpa using List.find?_some h

theorem length_of_decodeOperands {op : Opcode} {ws : List Word} {i : Instr} (h : decodeOperands op ws = some i) :
    ws.length + 1 = requestLength op := by
  cases op <;> simp only [decodeOperands] at h <;> split at h <;> cases h <;> rfl

/-- A message that decodes is a command word with an assigned opcode and RSVD = 0, and as many operand words as R85
fixes. -/
theorem decode_ok {msg : Message} {i : Instr} (h : decode msg = .ok i) :
    ∃ cmd ws op, msg = cmd :: ws ∧ opcodeField cmd = opcodeByte op ∧ reservedField cmd = 0 ∧
      msg.length = requestLength op := by
  cases msg with
  | nil => cases h
  | cons cmd ws =>
    simp only [decode] at h
    split at h
    · cases h
    · rename_i op hop
      split at h
      · rename_i hrsvd
        split at h <;> cases h
        rename_i hops
        exact ⟨cmd, ws, op, rfl, (opcodeByte_of_opcodeOfByte hop).symm, hrsvd, length_of_decodeOperands hops⟩
      · cases h

namespace Machine

variable {s t : State} {q : Nat}

theorem assignedLength_opcodeByte (op : Opcode) : assignedLength (opcodeByte op) = some (requestLength op) := by
  cases op <;> rfl

/-- `malformed` reads the fields of the command word by arithmetic. -/
theorem ofNat_div_eq_opcodeField (cmd : Word) : BitVec.ofNat 8 (cmd.toNat / 2 ^ 24) = opcodeField cmd := by
  apply BitVec.eq_of_toNat_eq
  simp [opcodeField, Nat.shiftRight_eq_div_pow]

theorem mod_eq_toNat_reservedField (cmd : Word) : cmd.toNat % 2 ^ 24 = (reservedField cmd).toNat := by
  simp [reservedField]

theorem not_malformed_of_decode_ok {msg : Message} {i : Instr} (h : decode msg = .ok i) : ¬ malformed msg := by
  obtain ⟨cmd, ws, op, rfl, hop, hrsvd, hlen⟩ := decode_ok h
  rintro (hnil | ⟨cmd', ws', heq, hfault⟩)
  · cases hnil
  · cases heq
    rw [ofNat_div_eq_opcodeField, mod_eq_toNat_reservedField, hop, hrsvd, hlen, assignedLength_opcodeByte] at hfault
    simp at hfault

/-! ## The service of a malformed message -/

/-- R91: bits 23:0 of a header hold STATUS alone. -/
theorem header_eq_append (op : Byte) (st : Status) :
    header op st = op ++ ((0 : BitVec 16) ++ statusByte st) := by
  rw [header, BitVec.append_assoc, BitVec.cast_eq]

theorem response_eIllegal (op : Byte) : response op .eIllegal [] = [op ++ 0x000003#24] := by
  rw [response, header_eq_append]
  rfl

theorem serveMessage_malformed {msg : Message} (hp : s.phase = .ready) (hq : s.serving = some q)
    (hm : malformed msg) :
    serveMessage msg s = .next (answered q [messageOpcode msg ++ 0x000003#24] .ready s) := by
  cases hd : decode msg with
  | ok i => exact absurd hm (not_malformed_of_decode_ok hd)
  | error e =>
    simp only [serveMessage, hd]
    rw [serve_ready _ hp, raiseError,
      complete_taken (s := s) (u := (takeRequest s).setPhase .busy) hq (takeRequest_slots_of_serving hq),
      response_eIllegal]
    rfl

/-! ## The step -/

theorem serveMessage_decoded {msg : Message} {i : Instr} (h : decode msg = .ok i) :
    serveMessage msg s = exec i s := by
  simp only [serveMessage, h]

theorem serveNext_takes {pick : Option Nat} {msg : Message} (ha : arbiter pick s = some (q, t))
    (hmsg : (slotAt q t).pending = some msg) :
    serveNext pick s = serveMessage msg (t.setServing (some q)) := by
  simp [serveNext, ha, pendingMessage, hmsg]

/-- Settles O49: the step is the service of the message, and the rest follows from what that service is. -/
theorem stepRunsTheDecodedRequest : Obligations.StepRunsTheDecodedRequest := by
  intro s t pick ms q msg hm hp ha hmsg
  have hstep : step s = serveMessage msg (t.setServing (some q)) := by
    rw [step_block pick ms hm, blockTurn_serves (s := s.setMoves ms) pick hp, serveNext_takes ha hmsg]
  refine ⟨hstep, fun i hd => hstep.trans (serveMessage_decoded hd), fun hready hmal => ?_⟩
  have htready : t.phase = .ready := (arbiter_keeps_slots_phase ha).2.trans hready
  exact hstep.trans (serveMessage_malformed (s := t.setServing (some q)) htready rfl hmal)

end Machine
end Sys2Proof
end

section
/-! PROOFS. Encoding and decoding a request (spec/30_encoding.md R84 to R87, R95, R97, R99). A command word is its two
fields, and an opcode's operand words are the operands of exactly one well-formed request; so a message decodes exactly
where it is the encoding of its request. -/

namespace Sys2Proof

variable {cmd : Word} {ws : List Word} {op : Opcode} {msg : Message} {i : Instr}

/-! ## The command word -/

/-- R84: OPCODE and RSVD are all of the command word. -/
theorem eq_commandWord_iff :
    cmd = commandWord op ↔ opcodeField cmd = opcodeByte op ∧ reservedField cmd = 0 := by
  constructor
  · rintro rfl
    exact ⟨opcodeField_commandWord op, reservedField_commandWord op⟩
  · rintro ⟨hop, hrsvd⟩
    have hjoin : opcodeField cmd ++ reservedField cmd = cmd :=
      (BitVec.extractLsb'_append_extractLsb'_eq_extractLsb' rfl).trans BitVec.extractLsb'_eq_self
    rw [← hjoin, hop, hrsvd, commandWord]

theorem messageOpcode_encode (i : Instr) : messageOpcode (encode i) = opcodeByte (instrOpcode i) :=
  opcodeField_commandWord (instrOpcode i)

/-! ## The operand words -/

theorem inS32_readS32 (w : Word) : inS32 (readS32 w) = true :=
  inS32_iff.2 ⟨BitVec.le_toInt w, Int.le_of_lt_add_one BitVec.toInt_lt⟩

theorem inU32_readU32 (w : Word) : inU32 (readU32 w) = true :=
  decide_eq_true (Nat.le_of_lt_succ w.isLt)

theorem decodeOperands_operandWords (h : i.wellFormed = true) :
    decodeOperands (instrOpcode i) (operandWords i) = some i := by
  cases i <;> simp only [Instr.wellFormed, Bool.and_eq_true] at h
  all_goals simp [decodeOperands, instrOpcode, operandWords, readS32_writeS32, readU32_writeU32, h]

theorem of_decodeOperands (h : decodeOperands op ws = some i) :
    instrOpcode i = op ∧ operandWords i = ws ∧ i.wellFormed = true := by
  cases op <;> simp only [decodeOperands] at h <;> split at h <;> cases h
  all_goals
    simp [instrOpcode, operandWords, Instr.wellFormed, writeS32_readS32, writeU32_readU32, inS32_readS32, inU32_readU32]

/-- R85, R87: the number of operand words is all that operand assembly checks. -/
theorem exists_decodeOperands (h : ws.length + 1 = requestLength op) : ∃ i, decodeOperands op ws = some i := by
  have hlen : ws.length = formatOperands (opcodeFormat op) := Nat.succ_injective h
  cases op with
  | encByte =>
    obtain ⟨v, rfl⟩ := List.length_eq_one_iff.1 hlen
    exact ⟨_, rfl⟩
  | encPixel =>
    obtain ⟨r, g, b, rfl⟩ := List.length_eq_three.1 hlen
    exact ⟨_, rfl⟩
  | setAll =>
    obtain ⟨r, g, b, rfl⟩ := List.length_eq_three.1 hlen
    exact ⟨_, rfl⟩
  | setOne =>
    obtain ⟨index, r, g, b, rfl⟩ := List.length_eq_four.1 hlen
    exact ⟨_, rfl⟩
  | getState =>
    obtain rfl := List.length_eq_zero_iff.1 hlen
    exact ⟨_, rfl⟩
  | sweep =>
    obtain ⟨brightness, delayUs, rfl⟩ := List.length_eq_two.1 hlen
    exact ⟨_, rfl⟩
  | shutdown =>
    obtain rfl := List.length_eq_zero_iff.1 hlen
    exact ⟨_, rfl⟩

/-! ## The message -/

theorem decode_commandWord_eq_ok_iff : decode (commandWord op :: ws) = .ok i ↔ decodeOperands op ws = some i := by
  simp only [decode, opcodeField_commandWord, opcodeOfByte_opcodeByte, reservedField_commandWord, if_true]
  cases decodeOperands op ws <;> simp

/-- The decoder reads exactly the encodings of well-formed requests. -/
theorem decode_eq_ok_iff : decode msg = .ok i ↔ encode i = msg ∧ i.wellFormed = true := by
  constructor
  · intro h
    obtain ⟨cmd, ws, op, rfl, hop, hrsvd, -⟩ := decode_ok h
    obtain rfl := eq_commandWord_iff.2 ⟨hop, hrsvd⟩
    obtain ⟨rfl, rfl, hwf⟩ := of_decodeOperands (decode_commandWord_eq_ok_iff.1 h)
    exact ⟨rfl, hwf⟩
  · rintro ⟨rfl, hwf⟩
    exact decode_commandWord_eq_ok_iff.2 (decodeOperands_operandWords hwf)

/-- Settles O1: from right to left, `decode_eq_ok_iff` at the request's own encoding. -/
theorem decodeOfEncodeIsTheRequest : Obligations.DecodeOfEncodeIsTheRequest :=
  fun _ hwf => decode_eq_ok_iff.2 ⟨rfl, hwf⟩

/-- Settles O2: `decode_eq_ok_iff` from left to right. -/
theorem encodeOfDecodeIsTheMessage : Obligations.EncodeOfDecodeIsTheMessage :=
  fun _ _ => decode_eq_ok_iff.1

/-- Settles O4: each message is the encoding of its request, whose operands are in range. -/
theorem wordsOfTheOpcodeMapDecode : Obligations.WordsOfTheOpcodeMapDecode := by
  refine ⟨?_, ?_, ?_, ?_, ?_, ?_, ?_⟩ <;> exact decode_eq_ok_iff.2 (by decide)

namespace Machine

/-- Settles O7: each expansion is one row of the table. -/
theorem pseudoRequestsExpand : Obligations.PseudoRequestsExpand :=
  ⟨fun _ => rfl, rfl, fun _ => rfl⟩

/-! ## The malformed messages -/

theorem exists_opcodeByte_of_assignedLength {x : Byte} (h : assignedLength x ≠ none) : ∃ op, x = opcodeByte op := by
  unfold assignedLength at h
  split_ifs at h with h1 h2 h3 h4 h5 h6 h7
  · exact ⟨.encByte, h1⟩
  · exact ⟨.encPixel, h2⟩
  · exact ⟨.setAll, h3⟩
  · exact ⟨.setOne, h4⟩
  · exact ⟨.getState, h5⟩
  · exact ⟨.sweep, h6⟩
  · exact ⟨.shutdown, h7⟩
  · exact absurd rfl h

/-- Items 2 to 4 of R95 in terms of the decoder's own fields. -/
theorem malformed_cons_iff :
    malformed (cmd :: ws) ↔
      assignedLength (opcodeField cmd) = none ∨ reservedField cmd ≠ 0 ∨
        assignedLength (opcodeField cmd) ≠ some (ws.length + 1) := by
  have hrsvd : cmd.toNat % 2 ^ 24 ≠ 0 ↔ reservedField cmd ≠ 0 := by
    rw [mod_eq_toNat_reservedField]
    exact BitVec.toNat_ne_iff_ne (y := 0#24)
  rw [malformed, ← ofNat_div_eq_opcodeField, ← hrsvd]
  constructor
  · rintro (hnil | ⟨_, _, heq, hfault⟩)
    · cases hnil
    · cases heq
      exact hfault
  · exact fun hfault => .inr ⟨cmd, ws, rfl, hfault⟩

theorem decode_ok_of_not_malformed (h : ¬ malformed msg) : ∃ i, decode msg = .ok i := by
  cases msg with
  | nil => exact absurd (.inl rfl) h
  | cons cmd ws =>
    rw [malformed_cons_iff] at h
    push Not at h
    obtain ⟨hassigned, hrsvd, hlen⟩ := h
    obtain ⟨op, hop⟩ := exists_opcodeByte_of_assignedLength hassigned
    obtain rfl := eq_commandWord_iff.2 ⟨hop, hrsvd⟩
    rw [hop, assignedLength_opcodeByte, Option.some_inj] at hlen
    obtain ⟨i, hi⟩ := exists_decodeOperands hlen.symm
    exact ⟨i, decode_commandWord_eq_ok_iff.2 hi⟩

/-- Settles O3: a malformed message has no decoding, and every other message has one. -/
theorem decodeRejectsExactlyTheMalformed : Obligations.DecodeRejectsExactlyTheMalformed := by
  intro msg
  constructor
  · rintro ⟨e, he⟩
    by_contra hm
    obtain ⟨i, hi⟩ := decode_ok_of_not_malformed hm
    rw [hi] at he
    cases he
  · intro hm
    cases hd : decode msg with
    | ok i => exact absurd hm (not_malformed_of_decode_ok hd)
    | error e => exact ⟨e, rfl⟩

end Machine
end Sys2Proof
end

section
/-! PROOFS. Operands and the words of a response (spec/30_encoding.md R88 to R91, R94). -/

namespace Sys2Proof.Machine

/-! ## The fields of a response's words -/

/-- Settles O5: each field is one of the three parts the header is joined from. -/
theorem headerHasOpcodeAndStatus : Obligations.HeaderHasOpcodeAndStatus := by
  intro op st
  refine ⟨?_, ?_, BitVec.extractLsb'_append_eq_right⟩
  · exact (BitVec.extractLsb'_append_eq_of_le (by decide)).trans BitVec.extractLsb'_append_eq_left
  · exact (BitVec.extractLsb'_append_eq_of_le (by decide)).trans BitVec.extractLsb'_append_eq_right

/-- Settles O6: each field is one of the four bytes the color word is joined from. -/
theorem colorWordFields : Obligations.ColorWordFields := by
  intro c
  refine ⟨?_, ?_, ?_, BitVec.extractLsb'_append_eq_right⟩
  · exact (BitVec.extractLsb'_append_eq_of_le (by decide)).trans
      ((BitVec.extractLsb'_append_eq_of_le (by decide)).trans BitVec.extractLsb'_append_eq_left)
  · exact (BitVec.extractLsb'_append_eq_of_le (by decide)).trans
      ((BitVec.extractLsb'_append_eq_of_le (by decide)).trans BitVec.extractLsb'_append_eq_right)
  · exact (BitVec.extractLsb'_append_eq_of_le (by decide)).trans BitVec.extractLsb'_append_eq_right

/-! ## The clamp -/

theorem clamp8_of_neg {x : Int} (h : x < 0) : clamp8 x = 0 := by
  rw [clamp8, if_pos h]

theorem clamp8_of_gt {x : Int} (h : 255 < x) : clamp8 x = 255 := by
  rw [clamp8, if_neg (by omega), if_pos h]

theorem toNat_clamp8 {x : Int} (h0 : 0 ≤ x) (h255 : x ≤ 255) : ((clamp8 x).toNat : Int) = x := by
  rw [clamp8, if_neg (by omega), if_neg (by omega), BitVec.toNat_ofInt]
  omega

/-- Settles O9: the three cases of `clamp8`. -/
theorem clampTakesTheNearestChannelValue : Obligations.ClampTakesTheNearestChannelValue :=
  fun _ => ⟨clamp8_of_neg, clamp8_of_gt, toNat_clamp8⟩

/-! ## Saturation -/

theorem indexValid_iff {n : Nat} {index : Int} : indexValid n index = true ↔ 0 ≤ index ∧ index < n := by
  simp [indexValid]

/-- R13, R39: every index of a legal configuration is an s32. -/
theorem n_le_of_legalConfig {c : Config} (h : legalConfig c = true) : c.n ≤ 2147483647 := by
  simp only [legalConfig, Bool.and_eq_true, decide_eq_true_eq] at h
  omega

theorem sat32_cases (y : Int) :
    (y < -2147483648 ∧ sat32 y = -2147483648) ∨ (2147483647 < y ∧ sat32 y = 2147483647) ∨
      (inS32 y = true ∧ sat32 y = y) := by
  rw [inS32_iff, sat32]
  split_ifs <;> omega

/-- Settles O10: a value below the s32 range and the range's end are both negative; one above it and the range's end are
both above 255 and above every index. -/
theorem saturationLosesNothing : Obligations.SaturationLosesNothing := by
  intro y c hc
  have hn := n_le_of_legalConfig hc
  rcases sat32_cases y with ⟨hy, hsat⟩ | ⟨hy, hsat⟩ | ⟨hy, hsat⟩ <;> rw [hsat]
  · refine ⟨by decide, ?_, ?_⟩
    · rw [clamp8_of_neg (by decide), clamp8_of_neg (by omega)]
    · rw [Bool.eq_iff_iff, indexValid_iff, indexValid_iff]
      omega
  · refine ⟨by decide, ?_, ?_⟩
    · rw [clamp8_of_gt (by decide), clamp8_of_gt (by omega)]
    · rw [Bool.eq_iff_iff, indexValid_iff, indexValid_iff]
      omega
  · exact ⟨hy, rfl, rfl⟩

end Sys2Proof.Machine
end

section
/-! PROOFS. The service of any message, phase by phase (spec/60_exceptions.md R147, spec/30_encoding.md R91, R95), and
the slots it leaves alone. -/

namespace Sys2Proof.Machine

variable {s t u : State} {q : Nat} {op : Byte} {st : Status} {ws : List Word} {p : Phase}

theorem setServing_self (hq : s.serving = some q) : s.setServing (some q) = s := by
  rw [← hq]
  rfl

/-! ## FAILED and HALTED -/

/-- A message's service is the service procedure under the message's own OPCODE, whether it decodes or not. -/
theorem serveMessage_eq_serve_messageOpcode (msg : Message) :
    ∃ body, ∀ s, serveMessage msg s = serve (messageOpcode msg) body s := by
  cases hd : decode msg with
  | ok i =>
    obtain ⟨rfl, -⟩ := decode_eq_ok_iff.1 hd
    obtain ⟨body, hbody⟩ := exec_eq_serve i
    refine ⟨body, fun s => ?_⟩
    rw [serveMessage_decoded hd, hbody, messageOpcode_encode]
  | error e =>
    refine ⟨fun t => .next (raiseError (messageOpcode msg) .eIllegal t), fun s => ?_⟩
    simp only [serveMessage, hd]

theorem serveMessage_failed (msg : Message) (hp : s.phase = .failed) (hq : s.serving = some q) :
    serveMessage msg s = .next (answered q [messageOpcode msg ++ 0x000004#24] .failed s) := by
  obtain ⟨body, hserve⟩ := serveMessage_eq_serve_messageOpcode msg
  rw [hserve, serve_failed body hp hq, response, header_eq_append]
  rfl

theorem serveMessage_halted (msg : Message) (hp : s.phase = .halted) (hq : s.serving = some q) :
    serveMessage msg s = .next (answered q [messageOpcode msg ++ 0x000005#24] .halted s) := by
  obtain ⟨body, hserve⟩ := serveMessage_eq_serve_messageOpcode msg
  rw [hserve, serve_halted body hp hq, response, header_eq_append]
  rfl

/-! ## READY -/

/-- `Answers q op p s t`: in `t`, requester q's request, pending in `s`, has been answered under OPCODE `op` with some
status and data words, and PHASE is `p` (R91, R147). -/
def Answers (q : Nat) (op : Byte) (p : Phase) (s t : State) : Prop :=
  t.phase = p ∧ ∃ st ws, t.slots = s.slots.set q ⟨none, some (response op st ws)⟩

theorem Answers.of_complete (hserving : u.serving = some q) (hslots : u.slots = takenSlots (some q) s.slots) :
    Answers q op p s (complete op st ws p u) :=
  complete_taken hserving hslots ▸ ⟨rfl, st, ws, rfl⟩

theorem Answers.of_transacts (hu : Transacts (taken q s) u) : Answers q op p s (complete op st ws p u) := by
  obtain ⟨-, -, hslots, hserving⟩ := hu.frame
  exact .of_complete hserving hslots

/-- R31, R91: PHASE and the answer's OPCODE after each request. -/
theorem exec_ready_answers (i : Instr) (hp : s.phase = .ready) (h : exec i (s.setServing (some q)) = .next t) :
    Answers q (opcodeByte (instrOpcode i)) (if i = .shutdown then .halted else .ready) s t := by
  cases i with
  | encByte v =>
    rw [exec, execEncByte, serve_taken _ hp] at h
    cases h
    exact .of_transacts (.done _)
  | encPixel r g b =>
    rw [exec, execEncPixel, serve_taken _ hp] at h
    cases h
    exact .of_transacts (.done _)
  | setAll r g b =>
    rw [exec, execSetAll, serve_taken _ hp] at h
    rw [onTransport_next h]
    exact .of_transacts (.single _ fun _ => rfl)
  | setOne index r g b =>
    rw [exec, execSetOne, serve_taken _ hp] at h
    split at h
    · rw [onTransport_next h]
      exact .of_transacts (.single _ fun hw => stripWellFormed_setOneState _ _ hw)
    · cases h
      exact .of_transacts (.done _)
  | getState =>
    rw [exec, execGetState, serve_taken _ hp] at h
    cases h
    exact .of_transacts (.done _)
  | sweep brightness delayUs =>
    rw [exec, execSweep, serve_taken _ hp] at h
    rw [onTransport_next h]
    exact .of_transacts (runSweep_transacts _ _ _)
  | shutdown =>
    rw [exec, execShutdown, serve_taken _ hp] at h
    rw [onTransport_next h]
    exact .of_complete (u := (closeTransport (taken q s)).2) rfl rfl

/-- Settles O34: the phase check of the service procedure, then the format check, then the request that the message
encodes. -/
theorem serviceChecksInOrder : Obligations.ServiceChecksInOrder := by
  intro s q msg hq
  refine ⟨fun hp => serveMessage_failed msg hp hq, fun hp => serveMessage_halted msg hp hq,
    fun hp hm => serveMessage_malformed hp hq hm, fun hp hm => ?_⟩
  obtain ⟨i, hd⟩ := decode_ok_of_not_malformed hm
  refine ⟨i, hd, serveMessage_decoded hd, fun t h => ?_⟩
  obtain ⟨rfl, -⟩ := decode_eq_ok_iff.1 hd
  rw [← setServing_self hq] at h
  rw [messageOpcode_encode]
  exact exec_ready_answers i hp h

/-! ## The other requesters -/

theorem Service.slots (h : Service q s t) : ∃ x, t.slots = s.slots.set q x := by
  cases h with
  | refuses hp hr => exact ⟨_, rfl⟩
  | runs hp hu hr =>
    obtain ⟨-, -, hslots, -⟩ := hu.frame
    exact ⟨_, by rw [answered_slots, hslots]⟩
  | closes hp hr => exact ⟨_, rfl⟩

theorem serveMessage_slots {msg : Message} (hq : s.serving = some q) (h : serveMessage msg s = .next t) :
    t = s ∨ ∃ x, t.slots = s.slots.set q x := by
  have service (hp : s.phase = .ready ∨ s.phase = .failed ∨ s.phase = .halted) : Service q s t :=
    serveMessage_service msg hp (setServing_self hq ▸ h)
  have waits (hp : s.phase = .init ∨ s.phase = .busy) : t = s := by
    obtain ⟨op, body, hserve⟩ := serveMessage_eq_serve msg
    rw [hserve, serve_waits body hp] at h
    cases h
    rfl
  cases hp : s.phase with
  | init => exact .inl (waits (.inl hp))
  | ready => exact .inr (service (.inl hp)).slots
  | busy => exact .inl (waits (.inr hp))
  | failed => exact .inr (service (.inr (.inl hp))).slots
  | halted => exact .inr (service (.inr (.inr hp))).slots

/-- Settles O38: the service of q's message writes the slots at q alone. -/
theorem serviceLeavesOtherRequestersSlots : Obligations.ServiceLeavesOtherRequestersSlots := by
  intro s t q q' msg hq hne h
  rcases serveMessage_slots hq h with rfl | ⟨x, hx⟩
  · rfl
  · rw [hx, List.getElem?_set_ne hne.symm]

end Sys2Proof.Machine
end

section
/-! PROOFS. The Bit Codec (spec/41_bit_codec.md R101 to R106) and its one request, ENC_BYTE (R109). The symbols of a channel
encoding are read in two ways: from below, where bit 3k + j of `encByte v` is bit j of the symbol of data bit k; and in line
order, where a strip's bits are its data bits, each replaced by its symbol's three levels. -/

namespace Sys2Proof.Machine

variable {s : State} {q k j : Nat} {v : Byte}

/-! ## One symbol -/

theorem encBit_eq_append (b : Bool) :
    encBit b = BitVec.ofBool true ++ BitVec.ofBool b ++ BitVec.ofBool false := by
  cases b <;> rfl

/-- Settles O11: the two symbols, and the form that holds of both. -/
theorem symbolOfADataBit : Obligations.SymbolOfADataBit :=
  ⟨rfl, rfl, encBit_eq_append⟩

theorem encBit_getLsbD (b : Bool) (hj : j < 3) :
    (encBit b).getLsbD j = (decide (j = 2) || (decide (j = 1) && b)) := by
  interval_cases j <;> cases b <;> rfl

theorem bitsMsb_encBit (b : Bool) : bitsMsb (encBit b) = [true, b, false] := by
  cases b <;> rfl

/-! ## The symbols of a channel encoding, from below -/

theorem extractLsb'_encBit (b : Bool) : (encBit b).extractLsb' (3 * 0) 3 = encBit b :=
  BitVec.extractLsb'_eq_self

theorem extractLsb'_append_encBit_zero {n : Nat} (x : BitVec n) (b : Bool) :
    (x ++ encBit b).extractLsb' (3 * 0) 3 = encBit b :=
  BitVec.extractLsb'_append_eq_right

theorem extractLsb'_append_encBit_succ {n : Nat} (x : BitVec n) (b : Bool) (k : Nat) :
    (x ++ encBit b).extractLsb' (3 * (k + 1)) 3 = x.extractLsb' (3 * k) 3 :=
  BitVec.extractLsb'_append_eq_of_le (Nat.le_add_left 3 (3 * k))

/-- Settles O12: `encByte` appends the symbols of lower data bits on the right, so symbol k is reached by dropping k of
them. -/
theorem channelEncodingIsEightSymbols : Obligations.ChannelEncodingIsEightSymbols := by
  intro v k hk
  rw [encByte]
  interval_cases k <;>
    simp only [extractLsb'_append_encBit_succ, extractLsb'_append_encBit_zero, extractLsb'_encBit]

theorem encByte_getLsbD (v : Byte) (hk : k < 8) (hj : j < 3) :
    (encByte v).getLsbD (3 * k + j) = (decide (j = 2) || (decide (j = 1) && v.getLsbD k)) := by
  rw [← encBit_getLsbD _ hj, ← channelEncodingIsEightSymbols v k hk, BitVec.getLsbD_extractLsb', decide_eq_true hj,
    Bool.true_and]

/-- R105: data bit k stands at bit 3k+1 of the encoding. -/
theorem encByte_getLsbD_dataBit (v : Byte) (hk : k < 8) : (encByte v).getLsbD (3 * k + 1) = v.getLsbD k :=
  encByte_getLsbD v hk (by decide)

/-- Settles O14: equal encodings have equal bits 3k+1, which are the data bits. -/
theorem channelEncodingInjective : Obligations.ChannelEncodingInjective := by
  intro v w h
  refine BitVec.eq_of_getLsbD_eq fun k hk => ?_
  rw [← encByte_getLsbD_dataBit v hk, h, encByte_getLsbD_dataBit w hk]

/-! ## The closed form -/

theorem getLsbD_foldl_or {n : Nat} (xs : List (BitVec n)) (a : BitVec n) (i : Nat) :
    (xs.foldl (· ||| ·) a).getLsbD i = (a.getLsbD i || xs.any fun x => x.getLsbD i) := by
  induction xs generalizing a with
  | nil => simp
  | cons x xs ih => simp [ih, Bool.or_assoc]

theorem getLsbD_ofBool_shiftLeft (b : Bool) (n : Nat) {i : Nat} (hi : i < 24) :
    (((BitVec.ofBool b).setWidth 24) <<< n).getLsbD i = (decide (i = n) && b) := by
  have hpos : decide (i = n) = (!decide (i < n) && decide (i - n = 0)) := by
    rw [Bool.eq_iff_iff]
    simp only [Bool.and_eq_true, Bool.not_eq_true', decide_eq_true_eq, decide_eq_false_iff_not]
    omega
  rw [BitVec.getLsbD_shiftLeft, BitVec.getLsbD_setWidth, BitVec.getLsbD_ofBool, hpos]
  simp [hi, Nat.lt_of_le_of_lt (Nat.sub_le i n) hi, Bool.and_assoc]

/-- R103: of the shifted data bits, or-ed together, only the k-th can be 1 within symbol k, and it is the middle bit. -/
theorem getLsbD_shiftedDataBits (v : Byte) (hk : k < 8) (hj : j < 3) :
    (((List.range 8).map fun k => ((BitVec.ofBool (v.getLsbD k)).setWidth 24) <<< (3 * k + 1)).foldl (· ||| ·)
      0).getLsbD (3 * k + j) = (decide (j = 1) && v.getLsbD k) := by
  have hi : 3 * k + j < 24 := by omega
  rw [getLsbD_foldl_or, Bool.eq_iff_iff]
  simp only [BitVec.ofNat_eq_ofNat, BitVec.getLsbD_zero, Bool.false_or, List.any_map, Function.comp_def,
    getLsbD_ofBool_shiftLeft _ _ hi, List.any_eq_true, List.mem_range, Bool.and_eq_true, decide_eq_true_eq]
  constructor
  · rintro ⟨k', -, hpos, hbit⟩
    obtain ⟨rfl, rfl⟩ : k' = k ∧ j = 1 := by omega
    exact ⟨rfl, hbit⟩
  · rintro ⟨rfl, hbit⟩
    exact ⟨k, hk, rfl, hbit⟩

/-- Settles O13: bit by bit. The constant is the encoding of 0, so it has the outer bits of every symbol, and the data bits
fill the middle ones. -/
theorem channelEncodingClosedForm : Obligations.ChannelEncodingClosedForm := by
  intro v
  have hconst : 0x924924#24 = encByte 0 := by decide
  refine BitVec.eq_of_getLsbD_eq fun i hi => ?_
  obtain ⟨k, j, hk, hj, rfl⟩ : ∃ k j, k < 8 ∧ j < 3 ∧ i = 3 * k + j := ⟨i / 3, i % 3, by omega⟩
  rw [hconst, BitVec.getLsbD_or, getLsbD_shiftedDataBits v hk hj, encByte_getLsbD _ hk hj, encByte_getLsbD _ hk hj]
  simp

/-! ## The symbols of a strip, in line order -/

theorem bitsMsb_append {m n : Nat} (x : BitVec m) (y : BitVec n) : bitsMsb (x ++ y) = bitsMsb x ++ bitsMsb y := by
  simp only [bitsMsb, List.range_add, List.map_append, List.map_map]
  congr 1 <;> refine List.map_congr_left fun t ht => ?_
  · rw [BitVec.getMsbD_append, if_neg (Nat.not_le.2 (List.mem_range.1 ht))]
  · simp [BitVec.getMsbD_append]

/-- R102: a channel value's bits, each replaced by its symbol. -/
theorem bitsMsb_encByte (v : Byte) : bitsMsb (encByte v) = (bitsMsb v).flatMap fun b => bitsMsb (encBit b) := by
  simp only [encByte, bitsMsb_append]
  rfl

/-- The data bits of a strip in line order: LED 0 first, each LED's channels in wire order (R110), each channel most
significant bit first. -/
def dataBits (s : List Color) : List Bool :=
  s.flatMap fun c => bitsMsb c.g ++ bitsMsb c.r ++ bitsMsb c.b

theorem length_dataBits (s : List Color) : (dataBits s).length = 24 * s.length := by
  simp [dataBits, bitsMsb_length, Nat.mul_comm]

/-- R112: a strip's bits are its data bits, each replaced by its symbol. -/
theorem stripBits_eq_flatMap_dataBits (s : List Color) :
    stripBits s = (dataBits s).flatMap fun b => bitsMsb (encBit b) := by
  simp only [stripBits, dataBits, encPixel, wire, bitsMsb_append, bitsMsb_encByte, List.flatMap_append,
    List.flatMap_assoc]

/-- In a sequence of symbols, symbol m begins high at 3m and ends low at 3m+2. -/
theorem symbols_getElem? {bs : List Bool} {m : Nat} (hm : m < bs.length) :
    (bs.flatMap fun b => bitsMsb (encBit b))[3 * m]? = some true ∧
      (bs.flatMap fun b => bitsMsb (encBit b))[3 * m + 2]? = some false := by
  simp only [bitsMsb_encBit]
  induction bs generalizing m with
  | nil => cases hm
  | cons b bs ih =>
    cases m with
    | zero => exact ⟨rfl, rfl⟩
    | succ m => exact ih (Nat.lt_of_succ_lt_succ hm)

/-- Settles O24: a strip of N LEDs is a sequence of 24N symbols. -/
theorem everyLogicalBitBeginsHighAndEndsLow : Obligations.EveryLogicalBitBeginsHighAndEndsLow := by
  intro s m hm
  rw [stripBits_eq_flatMap_dataBits]
  exact symbols_getElem? (by rwa [length_dataBits])

/-! ## ENC_BYTE -/

/-- A request that is answered as soon as it has been taken leaves the rest of the state as it found it. -/
theorem complete_takeRequest (op : Byte) (st : Status) (ws : List Word) (p : Phase) (hq : s.serving = some q) :
    complete op st ws p ((takeRequest s).setPhase .busy) = answered q (response op st ws) p s :=
  complete_taken hq (takeRequest_slots_of_serving hq)

theorem commandWord_encByte : commandWord .encByte = 0x01000000 := by decide

theorem header_encByte_ok : header (opcodeByte .encByte) .ok = 0x01000000 := by decide

/-- Settles O27: the service in READY answers at once, and the entry of SYMTAB it answers is the encoding (R41). -/
theorem encByteAnswersTheEncoding : Obligations.EncByteAnswersTheEncoding := by
  intro s q v
  refine ⟨congrArg (· :: operandWords (.encByte v)) commandWord_encByte, fun hp hq => ?_⟩
  rw [exec, execEncByte, serve_ready _ hp, complete_takeRequest _ _ _ _ hq, response, header_encByte_ok, symtabWord,
    symtabAt_eq]

end Sys2Proof.Machine
end

section
/-! PROOFS. The Frame Encoder (spec/42_frame_encoder.md R110 to R119) and its one request, ENC_PIXEL (R124). The packer is
read chunk by chunk, whether the last chunk is a whole byte or not; a strip's LEDs are whole bytes, so its frame is the
preamble and then each LED's nine bytes, channel by channel. -/

namespace Sys2Proof.Machine

variable {t : Nat}

/-! ## Bit sequences -/

/-- A concatenation of blocks of equal length m: position k of block i is position m * i + k of the whole. -/
theorem flatMap_getElem? {α β : Type} {f : α → List β} {m : Nat} (hf : ∀ a, (f a).length = m) {xs : List α} {i k : Nat}
    {a : α} (ha : xs[i]? = some a) (hk : k < m) : (xs.flatMap f)[m * i + k]? = (f a)[k]? := by
  induction xs generalizing i with
  | nil => simp at ha
  | cons x xs ih =>
    rw [List.flatMap_cons]
    cases i with
    | zero =>
      obtain rfl : x = a := by simpa using ha
      rw [Nat.mul_zero, Nat.zero_add, List.getElem?_append_left (by rwa [hf])]
    | succ i =>
      rw [List.getElem?_append_right (by rw [hf, Nat.mul_succ]; omega), hf, ← ih ha]
      congr 1
      rw [Nat.mul_succ]
      omega

/-- Settles O17: `wire` and `encPixel` list the channels as R110 and R111 do. -/
theorem pixelEncodingInWireOrder : Obligations.PixelEncodingInWireOrder :=
  fun _ => ⟨rfl, rfl⟩

/-- Settles O16: a strip's bits are one block of 72 for each LED, and within it position 71 - t is bit t. -/
theorem stripBitsInOrder : Obligations.StripBitsInOrder := by
  intro s
  refine ⟨length_stripBits s, fun i t c ht hc => ?_⟩
  rw [stripBits, flatMap_getElem? (fun c => bitsMsb_length (encPixel c)) hc (by omega),
    bitsMsb_getElem? _ _ (by omega)]
  congr 2
  omega

/-! ## The byte packer -/

/-- R114: a number of m bits is below 2^m. -/
theorem toNat_byteOfBits_lt (bs : List Bool) : (byteOfBits bs).toNat < 2 ^ bs.length := by
  refine Nat.lt_pow_two_of_testBit _ fun j hj => ?_
  rw [BitVec.testBit_toNat]
  by_cases h8 : j < 8
  · rw [byteOfBits_getLsbD bs h8, List.getD_eq_default _ _ (by rwa [List.length_reverse])]
  · exact BitVec.getLsbD_of_ge _ _ (Nat.le_of_not_lt h8)

/-- R114: the first bit is the most significant one. -/
theorem byteOfBits_getLsbD_msb {bs : List Bool} (h : bs.length ≤ 8) (ht : t < bs.length) :
    (byteOfBits bs).getLsbD (bs.length - 1 - t) = bs.getD t false := by
  rw [byteOfBits_getLsbD bs (by omega), List.getD_eq_getElem?_getD, List.getD_eq_getElem?_getD,
    List.getElem?_reverse (by omega)]
  congr 2
  omega

/-- R113: at most 8 bits, left-justified in a byte, stand from bit 7 downwards, with zeros below them. -/
theorem leftJustified_getLsbD {bs : List Bool} (h : bs.length ≤ 8) (ht : t < 8) :
    (byteOfBits bs <<< (8 - bs.length)).getLsbD (7 - t) = bs.getD t false := by
  rw [BitVec.getLsbD_shiftLeft, decide_eq_true (show 7 - t < 8 by omega), Bool.true_and]
  by_cases htl : t < bs.length
  · have hpos : 7 - t - (8 - bs.length) = bs.length - 1 - t := by omega
    rw [decide_eq_false (by omega), hpos, byteOfBits_getLsbD_msb h htl, Bool.not_false, Bool.true_and]
  · rw [decide_eq_true (by omega), List.getD_eq_default _ _ (by omega), Bool.not_true, Bool.false_and]

/-- The packer's one equation for whole and incomplete bytes: the first 8 bits, or all that are left, become a byte. -/
theorem pack_eq_cons {bs : List Bool} (h : bs ≠ []) :
    pack bs = (byteOfBits (bs.take 8) <<< (8 - (bs.take 8).length)) :: pack (bs.drop 8) := by
  by_cases h8 : bs.length < 8
  · rw [pack_short bs h h8, List.take_of_length_le h8.le, List.drop_of_length_le h8.le]
    rfl
  · obtain ⟨_, _, _, _, _, _, _, _, rest, rfl⟩ := exists_eight_of_length bs (by omega)
    rw [pack_eight]
    simp

theorem length_pack (bs : List Bool) : (pack bs).length = (bs.length + 7) / 8 := by
  by_cases h : bs = []
  · subst h
    rfl
  · have hpos : 0 < bs.length := List.length_pos_of_ne_nil h
    rw [pack_eq_cons h, List.length_cons, length_pack (bs.drop 8), List.length_drop]
    omega
termination_by bs.length
decreasing_by
  rw [List.length_drop]
  omega

theorem pack_getElem?_getLsbD {bs : List Bool} {j : Nat} {x : Byte} (ht : t < 8) (hx : (pack bs)[j]? = some x) :
    x.getLsbD (7 - t) = bs.getD (8 * j + t) false := by
  induction j generalizing bs with
  | zero =>
    have h : bs ≠ [] := by rintro rfl; cases hx
    rw [pack_eq_cons h, List.getElem?_cons_zero] at hx
    cases hx
    rw [leftJustified_getLsbD (List.length_take_le 8 bs) ht]
    simp [List.getD_eq_getElem?_getD, List.getElem?_take_of_lt ht]
  | succ j ih =>
    have h : bs ≠ [] := by rintro rfl; cases hx
    rw [pack_eq_cons h, List.getElem?_cons_succ] at hx
    rw [ih hx, List.getD_eq_getElem?_getD, List.getD_eq_getElem?_getD, List.getElem?_drop]
    congr 2
    omega

/-- Settles O18: the length by recursion on the chunks, the bits by induction on the byte's number. -/
theorem packPlacesEveryBit : Obligations.PackPlacesEveryBit :=
  fun bs => ⟨length_pack bs, fun _ _ _ => pack_getElem?_getLsbD⟩

/-- Settles O19: the whole bytes are packed on their own, and a is the number that the remaining bits are read as. -/
theorem packLeftJustifiesTheLastByte : Obligations.PackLeftJustifiesTheLastByte := by
  intro whole rest k hwhole h1 h7
  have hrest : rest ≠ [] := List.ne_nil_of_length_pos h1
  refine ⟨byteOfBits rest, ?_, toNat_byteOfBits_lt rest, fun t ht => byteOfBits_getLsbD_msb (by omega) ht⟩
  rw [pack_append k _ _ hwhole, pack_short rest hrest (by omega)]

/-! ## Whole bytes -/

/-- R22, R113: a byte's bits, packed, are that byte again. -/
theorem pack_bitsMsb_byte (x : Byte) : pack (bitsMsb x) = [x] := by
  have hlength : (pack (bitsMsb x)).length = 1 := by rw [length_pack, bitsMsb_length]
  obtain ⟨y, hy⟩ := List.length_eq_one_iff.1 hlength
  rw [hy, List.singleton_inj]
  refine BitVec.eq_of_getLsbD_eq fun j hj => ?_
  have hbit : y.getLsbD (7 - (7 - j)) = (bitsMsb x).getD (8 * 0 + (7 - j)) false :=
    pack_getElem?_getLsbD (by omega) (congrArg (·[0]?) hy)
  have hpos : 7 - (7 - j) = j := by omega
  rwa [List.getD_eq_getElem?_getD, bitsMsb_getElem? _ _ (by omega), Nat.mul_zero, Nat.zero_add, Option.getD_some,
    hpos] at hbit

/-- R113: the bits of a value, packed, and then those that follow them, when the value is whole bytes. -/
theorem pack_bitsMsb_append {k : Nat} (x : BitVec (8 * k)) (bs : List Bool) :
    pack (bitsMsb x ++ bs) = pack (bitsMsb x) ++ pack bs :=
  pack_append k _ _ (bitsMsb_length x)

/-- R118: a channel's encoding is three bytes, high to low. -/
theorem pack_bitsMsb_channel (x : BitVec 24) :
    pack (bitsMsb x) = [x.extractLsb' 16 8, x.extractLsb' 8 8, x.extractLsb' 0 8] := by
  have hx : x.extractLsb' 16 8 ++ x.extractLsb' 8 8 ++ x.extractLsb' 0 8 = x := by
    rw [BitVec.extractLsb'_append_extractLsb'_eq_extractLsb' (by rfl),
      BitVec.extractLsb'_append_extractLsb'_eq_extractLsb' (by rfl)]
    exact BitVec.extractLsb'_eq_self
  calc pack (bitsMsb x)
      = pack (bitsMsb (x.extractLsb' 16 8) ++ (bitsMsb (x.extractLsb' 8 8) ++ bitsMsb (x.extractLsb' 0 8))) := by
        rw [← List.append_assoc, ← bitsMsb_append, ← bitsMsb_append, hx]
    _ = [x.extractLsb' 16 8, x.extractLsb' 8 8, x.extractLsb' 0 8] := by
        rw [pack_bitsMsb_append (k := 1), pack_bitsMsb_append (k := 1), pack_bitsMsb_byte, pack_bitsMsb_byte,
          pack_bitsMsb_byte]
        rfl

/-- R111, R118: an LED's bytes are those of its green, its red and its blue. -/
theorem pack_bitsMsb_encPixel (c : Color) :
    pack (bitsMsb (encPixel c)) =
      pack (bitsMsb (encByte c.g)) ++ (pack (bitsMsb (encByte c.r)) ++ pack (bitsMsb (encByte c.b))) := by
  rw [encPixel, wire, bitsMsb_append, bitsMsb_append, List.append_assoc, pack_bitsMsb_append (k := 3),
    pack_bitsMsb_append (k := 3)]

/-- R118: byte j of each of an LED's channels. -/
theorem pack_bitsMsb_encPixel_getElem? (c : Color) {j : Nat} (hj : j < 3) :
    (pack (bitsMsb (encPixel c)))[j]? = some ((encByte c.g).extractLsb' (16 - 8 * j) 8) ∧
      (pack (bitsMsb (encPixel c)))[3 + j]? = some ((encByte c.r).extractLsb' (16 - 8 * j) 8) ∧
      (pack (bitsMsb (encPixel c)))[6 + j]? = some ((encByte c.b).extractLsb' (16 - 8 * j) 8) := by
  simp only [pack_bitsMsb_encPixel, pack_bitsMsb_channel]
  interval_cases j <;> exact ⟨rfl, rfl, rfl⟩

theorem length_pack_bitsMsb_encPixel (c : Color) : (pack (bitsMsb (encPixel c))).length = 9 := by
  rw [length_pack, bitsMsb_length]

/-- R115: an LED is 9 whole bytes, so a strip's LEDs are packed one by one. -/
theorem pack_stripBits (s : List Color) :
    pack (stripBits s) = s.flatMap fun c => pack (bitsMsb (encPixel c)) := by
  induction s with
  | nil => rfl
  | cons c s ih => rw [List.flatMap_cons, ← ih, ← pack_bitsMsb_append (k := 9), stripBits, stripBits, List.flatMap_cons]

/-! ## Frames -/

theorem length_preamble (p : Nat) : (preamble p).length = p :=
  List.length_replicate

theorem length_encFrame (p : Nat) (s : List Color) : (encFrame p s).length = p + 9 * s.length := by
  rw [encFrame, List.length_append, length_preamble, length_pack, length_stripBits]
  omega

/-- Settles O20: the length is that of the packed 72N bits; both strip states have the same LEDs (R43). -/
theorem frameIsPreambleAndPayload : Obligations.FrameIsPreambleAndPayload :=
  fun p s => ⟨rfl, length_encFrame p s, fun _ _ => rfl⟩

theorem encFrame_getElem?_preamble {p j : Nat} (s : List Color) (hj : j < p) : (encFrame p s)[j]? = some 0 := by
  rw [encFrame, List.getElem?_append_left (by rwa [length_preamble]), preamble, List.getElem?_replicate, if_pos hj]

/-- R118: LED i's nine bytes begin at P + 9i. -/
theorem encFrame_getElem?_led {s : List Color} {i k : Nat} {c : Color} (p : Nat) (hc : s[i]? = some c) (hk : k < 9) :
    (encFrame p s)[p + 9 * i + k]? = (pack (bitsMsb (encPixel c)))[k]? := by
  have hpos : p + 9 * i + k - p = 9 * i + k := by omega
  rw [encFrame, List.getElem?_append_right (by rw [length_preamble]; omega), length_preamble, hpos, pack_stripBits,
    flatMap_getElem? length_pack_bitsMsb_encPixel hc hk]

/-- Settles O21: byte j of each channel stands at its offset among its LED's nine bytes. -/
theorem frameByteLayout : Obligations.FrameByteLayout := by
  intro p s
  refine ⟨fun j => encFrame_getElem?_preamble s, fun i j c hc hj => ?_⟩
  obtain ⟨hgreen, hred, hblue⟩ := pack_bitsMsb_encPixel_getElem? c hj
  refine ⟨?_, ?_, ?_⟩
  · rw [encFrame_getElem?_led p hc (by omega), hgreen]
  · rw [Nat.add_assoc, encFrame_getElem?_led p hc (by omega), hred]
  · rw [Nat.add_assoc, encFrame_getElem?_led p hc (by omega), hblue]

/-- Settles O22: each LED of the strip packs to the same nine bytes. -/
theorem uniformPayloadRepeats : Obligations.UniformPayloadRepeats := by
  intro p n c
  refine ⟨?_, length_pack_bitsMsb_encPixel c⟩
  rw [encFrame, List.drop_left' (length_preamble p), pack_stripBits, leds, List.flatMap_replicate]

/-! ## ENC_PIXEL -/

theorem commandWord_encPixel : commandWord .encPixel = 0x02000000 := by decide

theorem header_encPixel_ok : header (opcodeByte .encPixel) .ok = 0x02000000 := by decide

/-- R93, R124: the three entries of SYMTAB are the encodings of green, red and blue (R41). -/
theorem pixelWords_eq (c : Color) :
    pixelWords c = [(encByte c.g).setWidth 32, (encByte c.r).setWidth 32, (encByte c.b).setWidth 32] := by
  simp only [pixelWords, wire, symtabWord, symtabAt_eq]

/-- Settles O28: the service in READY answers at once, with the clamped color's three encodings in wire order. -/
theorem encPixelAnswersInWireOrder : Obligations.EncPixelAnswersInWireOrder := by
  intro s q r g b
  refine ⟨congrArg (· :: operandWords (.encPixel r g b)) commandWord_encPixel, fun hp hq => ?_⟩
  rw [exec, execEncPixel, serve_ready _ hp, complete_takeRequest _ _ _ _ hq, response, header_encPixel_ok,
    pixelWords_eq]
  rfl

end Sys2Proof.Machine
end

section
/-! PROOFS. SET_ALL, SET_ONE and GET_STATE (spec/43_strip_transactions.md R130 to R134, spec/70_reset_and_hazards.md R171).
A transaction neither reads nor writes what the service procedure writes around it, so a request that calls the transport is
that call made on the state as it stood, then answered with the call's verdict. -/

namespace Sys2Proof.Machine

variable {s t : State} {q : Nat} {op : Byte} {r g b : Int}

/-! ## Transport calls inside the service procedure -/

/-- `k` neither reads nor writes PHASE, the slots and the requester in service. -/
def IgnoresService (k : State → Verdict × State) : Prop :=
  ∀ p xs q s, k (s.withService p xs q) = ((k s).1, (k s).2.withService p xs q)

theorem IgnoresService.slots {k : State → Verdict × State} (hk : IgnoresService k) (s : State) :
    (k s).2.slots = s.slots :=
  congrArg (fun r => r.2.slots) (hk s.phase s.slots s.serving s)

/-- The block once requester q has been answered with the verdict of its transport calls (R132). -/
def answeredVerdict (q : Nat) (op : Byte) (r : Verdict × State) : State :=
  answered q (response op (verdictStatus r.1) []) .ready r.2

theorem takeRequest_eq_withService (hq : s.serving = some q) :
    (takeRequest s).setPhase .busy = s.withService .busy (takenSlots (some q) s.slots) (some q) := by
  rw [← hq]
  rfl

theorem answerVerdict_taken {k : State → Verdict × State} (hk : IgnoresService k) (hq : s.serving = some q) :
    answerVerdict op (k ((takeRequest s).setPhase .busy)) = answeredVerdict q op (k s) := by
  rw [takeRequest_eq_withService hq, hk, answerVerdict, complete_taken (s := s) rfl rfl, ← hk.slots s]
  rfl

/-- The rule of a request that calls the transport, once the request has been taken: HANDLE is as it was, and the calls are
those made on the state as it stood. -/
theorem onTransport_taken {k : State → Verdict × State} (calls : Bool) (hk : IgnoresService k)
    (hq : s.serving = some q) :
    onTransport calls (fun t => answerVerdict op (k t)) ((takeRequest s).setPhase .busy) =
      onTransport calls (fun t => answeredVerdict q op (k t)) s := by
  simp only [onTransport, answerVerdict_taken hk hq, State.setPhase_handle, takeRequest_handle]

theorem transaction_fst (new : StripState) (s : State) : (transaction new s).1 = nextVerdict s := by
  cases hv : nextVerdict s with
  | ok => rw [transaction_ok new hv]
  | error => rw [transaction_error new hv]

theorem transaction_ignoresService (new : StripState) : IgnoresService (transaction new) := by
  intro p xs q s
  have hverdict : nextVerdict (s.withService p xs q) = nextVerdict s := nextVerdict_congr rfl rfl
  exact Prod.ext (by rw [transaction_fst, transaction_fst, hverdict]) (transaction_withService new p xs q s)

/-- R130, R131: the LEDs that SET_ONE starts from are the committed ones. -/
theorem transaction_setOneState_ignoresService (k : Nat) (c : Color) :
    IgnoresService fun s => transaction (setOneState k c s) s :=
  fun p xs q s => transaction_ignoresService (setOneState k c s) p xs q s

/-! ## The requests in READY -/

theorem exec_setAll_ready (hp : s.phase = .ready) (hq : s.serving = some q) :
    exec (.setAll r g b) s =
      onTransport true
        (fun t => answeredVerdict q (opcodeByte .setAll) (transaction (.uniform (clampColor r g b)) t)) s := by
  rw [exec, execSetAll, serve_ready _ hp]
  exact onTransport_taken true (transaction_ignoresService _) hq

theorem exec_setOne_valid {index : Int} (hp : s.phase = .ready) (hq : s.serving = some q)
    (hi : indexValid s.cfg.n index = true) :
    exec (.setOne index r g b) s =
      onTransport true
        (fun t => answeredVerdict q (opcodeByte .setOne)
          (transaction (setOneState index.toNat (clampColor r g b) t) t)) s := by
  rw [exec, execSetOne, serve_ready _ hp]
  refine (if_pos hi).trans ?_
  exact onTransport_taken true (transaction_setOneState_ignoresService _ _) hq

theorem exec_setOne_invalid {index : Int} (hp : s.phase = .ready) (hq : s.serving = some q)
    (hi : ¬ indexValid s.cfg.n index = true) :
    exec (.setOne index r g b) s =
      .next (answered q (response (opcodeByte .setOne) .eValidation []) .ready s) := by
  rw [exec, execSetOne, serve_ready _ hp]
  refine (if_neg hi).trans ?_
  rw [raiseError, complete_takeRequest _ _ _ _ hq]

theorem exec_getState_ready (hp : s.phase = .ready) (hq : s.serving = some q) :
    exec .getState s =
      .next (answered q (response (opcodeByte .getState) .ok (stateWords s.cfg.n s.committed)) .ready s) := by
  rw [exec, execGetState, serve_ready _ hp, complete_takeRequest _ _ _ _ hq]
  rfl

/-! ## Results -/

theorem commandWord_setAll : commandWord .setAll = 0x10000000 := by decide

theorem header_setAll_ok : header (opcodeByte .setAll) .ok = 0x10000000 := by decide

theorem header_setAll_eTransport : header (opcodeByte .setAll) .eTransport = 0x10000002 := by decide

theorem commandWord_setOne : commandWord .setOne = 0x11000000 := by decide

theorem header_setOne_ok : header (opcodeByte .setOne) .ok = 0x11000000 := by decide

theorem header_setOne_eValidation : header (opcodeByte .setOne) .eValidation = 0x11000001 := by decide

theorem header_setOne_eTransport : header (opcodeByte .setOne) .eTransport = 0x11000002 := by decide

theorem commandWord_getState : commandWord .getState = 0x12000000 := by decide

theorem header_getState_ok : header (opcodeByte .getState) .ok = 0x12000000 := by decide

/-- Settles O29: one transaction of `Uniform` of the clamped color, for each verdict. -/
theorem setAllCommitsOrRollsBack : Obligations.SetAllCommitsOrRollsBack := by
  rintro s q h r g b c rfl
  refine ⟨congrArg (· :: operandWords (.setAll r g b)) commandWord_setAll, fun hp hq hh => ?_⟩
  rw [exec_setAll_ready hp hq, onTransport_open _ hh, answeredVerdict]
  cases hv : nextVerdict s with
  | ok =>
    rw [transaction_ok _ hv, verdictStatus, response, header_setAll_ok]
    rfl
  | error =>
    rw [transaction_error _ hv, verdictStatus, response, header_setAll_eTransport]
    rfl

/-- Settles O30: the index check comes before everything else; a valid index makes one transaction, for each verdict. -/
theorem setOneChecksTheIndexThenCommitsOrRollsBack : Obligations.SetOneChecksTheIndexThenCommitsOrRollsBack := by
  intro s q index r g b
  refine ⟨congrArg (· :: operandWords (.setOne index r g b)) commandWord_setOne, fun hp hq => ?_⟩
  refine ⟨fun hi => ?_, ?_⟩
  · have hinvalid : ¬ indexValid s.cfg.n index = true := by
      rw [indexValid_iff]
      omega
    rw [exec_setOne_invalid hp hq hinvalid, response, header_setOne_eValidation]
  · rintro h k pix hh rfl hk rfl
    have hvalid : indexValid s.cfg.n (k : Int) = true := indexValid_iff.2 (by omega)
    rw [exec_setOne_valid hp hq hvalid, onTransport_open _ hh, answeredVerdict]
    cases hv : nextVerdict s with
    | ok =>
      rw [transaction_ok _ hv, verdictStatus, response, header_setOne_ok]
      rfl
    | error =>
      rw [transaction_error _ hv, verdictStatus, response, header_setOne_eTransport]
      rfl

/-- Settles O31: the service in READY answers at once, with the data words of the form that COMMITTED has. -/
theorem getStateAnswersTheSnapshot : Obligations.GetStateAnswersTheSnapshot := by
  intro s q
  refine ⟨congrArg (· :: operandWords .getState) commandWord_getState, fun hp hq => ?_⟩
  rw [exec_getState_ready hp hq, response, header_getState_ok]
  cases s.committed with
  | uniform c => rfl
  | addressable pix => rfl

/-! ## GET_STATE after a failed SET_ALL or SET_ONE -/

theorem slotAt_answered_congr (msg : Message) (p : Phase) (h : s.slots.length = t.slots.length) :
    slotAt q (answered q msg p s) = slotAt q (answered q msg p t) := by
  simp only [slotAt, answered_slots, List.getD_eq_getElem?_getD, List.getElem?_set, h, if_true]

/-- `t` is READY and has all that GET_STATE reads, and as many slots, as they are in `s` (R134). -/
structure KeepsSnapshot (s t : State) : Prop where
  phase : t.phase = .ready
  cfg : t.cfg = s.cfg
  committed : t.committed = s.committed
  slotCount : t.slots.length = s.slots.length

theorem KeepsSnapshot.slotAt_getState {u v : State} (h : KeepsSnapshot s t) (hp : s.phase = .ready)
    (hu : exec .getState (t.setServing (some q)) = .next u) (hv : exec .getState (s.setServing (some q)) = .next v) :
    slotAt q u = slotAt q v := by
  rw [exec_getState_ready (s := t.setServing (some q)) h.phase rfl] at hu
  rw [exec_getState_ready (s := s.setServing (some q)) hp rfl] at hv
  cases hu
  cases hv
  simp only [State.setServing_cfg, State.setServing_committed, h.cfg, h.committed]
  exact slotAt_answered_congr _ _ h.slotCount

/-- R127: a failed transaction, answered. -/
theorem KeepsSnapshot.of_transaction_error (new : StripState) (hv : nextVerdict s = .error) :
    KeepsSnapshot s (answeredVerdict q op (transaction new s)) := by
  rw [transaction_error new hv]
  exact ⟨rfl, rfl, rfl, List.length_set⟩

/-- R127, R133: with verdict Error, SET_ALL and SET_ONE keep the snapshot, whether they transmit or not. -/
theorem KeepsSnapshot.of_failed_set {i : Instr} (hp : s.phase = .ready) (hq : s.serving = some q)
    (hv : nextVerdict s = .error)
    (hi : (∃ r g b, i = .setAll r g b) ∨ ∃ index r g b, i = .setOne index r g b) (h : exec i s = .next t) :
    KeepsSnapshot s t := by
  rcases hi with ⟨r, g, b, rfl⟩ | ⟨index, r, g, b, rfl⟩
  · rw [exec_setAll_ready hp hq] at h
    rw [onTransport_next h]
    exact .of_transaction_error _ hv
  · by_cases hindex : indexValid s.cfg.n index = true
    · rw [exec_setOne_valid hp hq hindex] at h
      rw [onTransport_next h]
      exact .of_transaction_error _ hv
    · rw [exec_setOne_invalid hp hq hindex] at h
      cases h
      exact ⟨rfl, rfl, rfl, List.length_set⟩

/-- Settles O40: the failed request keeps all that GET_STATE reads. -/
theorem failedSetIsInvisibleToGetState : Obligations.FailedSetIsInvisibleToGetState := by
  intro s t u v q q' i hp hq hv hi ht hu hv'
  exact (KeepsSnapshot.of_failed_set hp hq hv hi ht).slotAt_getState hp hu hv'

/-! ## One LED -/

theorem leds_setOneState (n k : Nat) (c : Color) (s : State) :
    leds n (setOneState k c s) = (leds s.cfg.n s.committed).set k c := rfl

/-- Settles O41: the committed state is the old LEDs with one element of the list replaced. -/
theorem setOneChangesOneLed : Obligations.SetOneChangesOneLed := by
  intro s t q k r g b hp hq hv hk hwf h
  have hvalid : indexValid s.cfg.n (k : Int) = true := indexValid_iff.2 (by omega)
  rw [exec_setOne_valid hp hq hvalid] at h
  rw [onTransport_next h, transaction_ok _ hv]
  simp only [answeredVerdict, answered_cfg, answered_committed, leds_setOneState, Int.toNat_natCast]
  exact ⟨List.getElem?_set_self (by rwa [length_leds hwf]), fun j hj => List.getElem?_set_ne hj.symm⟩

end Sys2Proof.Machine
end

section
/-! PROOFS. Sweeps (spec/43_strip_transactions.md R135, R136). Step k of a sweep runs where k steps that went well have left
the block, so a sweep is known from that state: it is the result if all N steps go well, and what the first failed
transaction is made on otherwise. -/

namespace Sys2Proof.Machine

variable {s t : State} {q k d : Nat} {b : Byte}

/-! ## Several verdicts -/

@[simp] theorem iterate_dropVerdict_cfg (k : Nat) (s : State) : (dropVerdict^[k] s).cfg = s.cfg := by
  induction k with
  | zero => rfl
  | succ k ih => rw [Function.iterate_succ_apply', dropVerdict_cfg, ih]

theorem upcomingVerdict_iterate_dropVerdict (k j : Nat) (s : State) :
    upcomingVerdict (dropVerdict^[k] s) j = upcomingVerdict s (j + k) := by
  induction k generalizing s with
  | zero => rfl
  | succ k ih => rw [Function.iterate_succ_apply, ih, upcomingVerdict_drop, Nat.add_assoc]

theorem nextVerdict_iterate_dropVerdict (k : Nat) (s : State) :
    nextVerdict (dropVerdict^[k] s) = upcomingVerdict s k := by
  rw [nextVerdict_eq_upcoming, upcomingVerdict_iterate_dropVerdict, Nat.zero_add]

/-! ## The steps that went well -/

/-- The entries of TRACE that the first k steps of a sweep with brightness b make, if they go well. -/
def sweepFrames (b : Byte) (k : Nat) (c : Config) : List TransportCall :=
  (List.range k).map fun i => .tx (encFrame c.p (leds c.n (sweepState c.n i b))) .ok

theorem sweepFrames_succ (b : Byte) (k : Nat) (c : Config) :
    sweepFrames b (k + 1) c =
      sweepFrames b k c ++ [.tx (encFrame c.p (leds c.n (sweepState c.n k b))) .ok] := by
  simp [sweepFrames, List.range_succ]

/-- The block after the first k steps of a sweep with brightness b and delay d, all of which went well (R136). -/
def swept (b : Byte) (d k : Nat) (s : State) : State :=
  { (dropVerdict^[k] s) with
    stage := if k = 0 then s.stage else none
    committed := if k = 0 then s.committed else sweepState s.cfg.n (k - 1) b
    display := if k = 0 then s.display else .known (leds s.cfg.n (sweepState s.cfg.n (k - 1) b))
    trace := s.trace ++ sweepFrames b k s.cfg
    waitedUs := s.waitedUs + (k - 1) * d }

/-- The block when step k of the sweep, after k that went well, makes its transaction: the delay has passed, except before
step 0. -/
theorem swept_wait (b : Byte) (d k : Nat) (s : State) :
    sweepWait k d (swept b d k s) = { swept b d k s with waitedUs := s.waitedUs + k * d } := by
  cases k with
  | zero => rfl
  | succ k =>
    rw [sweepWait_eq, if_neg k.succ_ne_zero]
    simp only [State.wait, swept, Nat.add_sub_cancel, Nat.succ_mul, Nat.add_assoc]

theorem swept_zero (b : Byte) (d : Nat) (s : State) : swept b d 0 s = s := by
  simp [swept, sweepFrames]

theorem nextVerdict_sweepWait_swept (b : Byte) (d k : Nat) (s : State) :
    nextVerdict (sweepWait k d (swept b d k s)) = upcomingVerdict s k := by
  rw [swept_wait, ← nextVerdict_iterate_dropVerdict]
  exact nextVerdict_congr rfl rfl

/-- Step k goes well. -/
theorem transaction_swept_ok (hv : upcomingVerdict s k = .ok) :
    transaction (sweepState (swept b d k s).cfg.n k b) (sweepWait k d (swept b d k s)) =
      (.ok, swept b d (k + 1) s) := by
  rw [transaction_ok _ ((nextVerdict_sweepWait_swept b d k s).trans hv), swept_wait]
  refine congrArg (Prod.mk _) ?_
  apply State.ext <;> simp [swept, sweepFrames_succ, Function.iterate_succ_apply']

/-- The block after step k of a sweep, which failed, and k steps before it that went well (R136, R127). -/
def sweepFailed (b : Byte) (d k : Nat) (s : State) : State :=
  { (dropVerdict^[k + 1] s) with
    stage := none
    committed := if k = 0 then s.committed else sweepState s.cfg.n (k - 1) b
    display := .unknown
    trace := s.trace ++ sweepFrames b k s.cfg ++
      [.tx (encFrame s.cfg.p (leds s.cfg.n (sweepState s.cfg.n k b))) .error]
    waitedUs := s.waitedUs + k * d }

/-- Step k fails. -/
theorem transaction_swept_error (hv : upcomingVerdict s k = .error) :
    transaction (sweepState (swept b d k s).cfg.n k b) (sweepWait k d (swept b d k s)) =
      (.error, sweepFailed b d k s) := by
  rw [transaction_error _ ((nextVerdict_sweepWait_swept b d k s).trans hv), swept_wait]
  refine congrArg (Prod.mk _) ?_
  apply State.ext <;> simp [swept, sweepFailed, Function.iterate_succ_apply']

/-! ## The sweep -/

/-- Steps that go well are followed by the others. -/
theorem sweepSteps_append_ok {is : List Nat} (js : List Nat) (h : sweepSteps b d is s = (.ok, t)) :
    sweepSteps b d (is ++ js) s = sweepSteps b d js t := by
  induction is generalizing s with
  | nil =>
    cases h
    rfl
  | cons i rest ih =>
    rcases hi : transaction (sweepState s.cfg.n i b) (sweepWait i d s) with ⟨_ | _, u⟩
    · rw [sweepSteps_cons_ok b d i rest hi] at h
      rw [List.cons_append, sweepSteps_cons_ok b d i _ hi, ih h]
    · rw [sweepSteps_cons_error b d i rest hi] at h
      cases h

theorem sweepSteps_range_ok (hv : ∀ j, j < k → upcomingVerdict s j = .ok) :
    sweepSteps b d (List.range k) s = (.ok, swept b d k s) := by
  induction k with
  | zero => rw [swept_zero, List.range_zero, sweepSteps_nil]
  | succ k ih =>
    rw [List.range_succ, sweepSteps_append_ok _ (ih fun j hj => hv j (by omega)),
      sweepSteps_cons_ok b d k [] (transaction_swept_ok (hv k (by omega))), sweepSteps_nil]

theorem runSweep_ok (hv : ∀ j, j < s.cfg.n → upcomingVerdict s j = .ok) :
    runSweep b d s = (.ok, swept b d s.cfg.n s) :=
  sweepSteps_range_ok hv

theorem runSweep_error (hk : k < s.cfg.n) (hv : ∀ j, j < k → upcomingVerdict s j = .ok)
    (he : upcomingVerdict s k = .error) : runSweep b d s = (.error, sweepFailed b d k s) := by
  obtain ⟨m, hm⟩ := Nat.exists_eq_add_of_le (Nat.succ_le_of_lt hk)
  rw [runSweep, hm, List.range_add, List.range_succ, List.append_assoc, sweepSteps_append_ok _ (sweepSteps_range_ok hv),
    List.singleton_append, sweepSteps_cons_error b d k _ (transaction_swept_error he)]

/-! ## SWEEP -/

theorem sweepWait_withService (i d : Nat) (p : Phase) (xs : List Slot) (q : Option Nat) (s : State) :
    sweepWait i d (s.withService p xs q) = (sweepWait i d s).withService p xs q := by
  rw [sweepWait_eq, sweepWait_eq]
  rfl

theorem sweepSteps_ignoresService (b : Byte) (d : Nat) (is : List Nat) : IgnoresService (sweepSteps b d is) := by
  induction is with
  | nil => exact fun _ _ _ _ => rfl
  | cons i rest ih =>
    intro p xs q s
    rcases hi : transaction (sweepState s.cfg.n i b) (sweepWait i d s) with ⟨v, u⟩
    have hservice : transaction (sweepState s.cfg.n i b) (sweepWait i d (s.withService p xs q)) =
        (v, u.withService p xs q) := by
      rw [sweepWait_withService, transaction_ignoresService, hi]
    cases v with
    | ok => rw [sweepSteps_cons_ok b d i rest hi, sweepSteps_cons_ok b d i rest hservice, ih]
    | error => rw [sweepSteps_cons_error b d i rest hi, sweepSteps_cons_error b d i rest hservice]

theorem runSweep_ignoresService (b : Byte) (d : Nat) : IgnoresService (runSweep b d) :=
  fun p xs q s => sweepSteps_ignoresService b d (List.range s.cfg.n) p xs q s

theorem exec_sweep_ready {brightness : Int} (hp : s.phase = .ready) (hq : s.serving = some q) :
    exec (.sweep brightness d) s =
      onTransport (s.cfg.n != 0)
        (fun t => answeredVerdict q (opcodeByte .sweep) (runSweep (clamp8 brightness) d t)) s := by
  rw [exec, execSweep, serve_ready _ hp]
  exact onTransport_taken (s.cfg.n != 0) (runSweep_ignoresService _ d) hq

theorem commandWord_sweep : commandWord .sweep = 0x13000000 := by decide

theorem header_sweep_ok : header (opcodeByte .sweep) .ok = 0x13000000 := by decide

theorem header_sweep_eTransport : header (opcodeByte .sweep) .eTransport = 0x13000002 := by decide

/-- Settles O32: the sweep's result, answered with its verdict. With N = 0 no transport call is made, so HANDLE may be
closed. -/
theorem sweepRunsUntilTheFirstError : Obligations.SweepRunsUntilTheFirstError := by
  rintro s q d brightness b rfl
  refine ⟨congrArg (· :: operandWords (.sweep brightness d)) commandWord_sweep, fun hp hq => ?_⟩
  rw [exec_sweep_ready hp hq]
  refine ⟨fun hcalls hv => ?_, fun h k hh hk hv he => ?_⟩
  · have hnext (f : State → State) : onTransport (s.cfg.n != 0) f s = .next (f s) := by
      rcases hcalls with hn | ⟨h, hh⟩
      · rw [hn]
        exact onTransport_no_call f
      · exact onTransport_open f hh
    rw [hnext, answeredVerdict, runSweep_ok hv, verdictStatus, response, header_sweep_ok]
    rfl
  · rw [onTransport_open _ hh, answeredVerdict, runSweep_error hk hv he, verdictStatus, response,
      header_sweep_eTransport]
    rfl

end Sys2Proof.Machine
end

section
/-! PROOFS. The transport's lifecycle (spec/44_lifecycle.md R137 to R141): SHUTDOWN closes it, a failed `open` ends in
FAILED, and in every run from a safe state at most one `Close` stands in TRACE, with the `Open` before it. -/

namespace Sys2Proof.Machine

variable {s t : State} {q k : Nat} {op : Byte}

/-! ## SHUTDOWN -/

theorem closeTransport_eq (s : State) :
    closeTransport s =
      (nextVerdict s,
        { dropVerdict s with handle := .closed, trace := s.trace ++ [.close (nextVerdict s)] }) := rfl

/-- The call is the one made on the state as it stood before the request was taken. -/
theorem answerClose_taken (hq : s.serving = some q) :
    answerClose op (closeTransport ((takeRequest s).setPhase .busy)) =
      answered q (response op (verdictStatus (nextVerdict s)) []) .halted (closeTransport s).2 := by
  rw [takeRequest_eq_withService hq, answerClose, complete_taken (s := s) rfl rfl]
  rfl

theorem exec_shutdown_ready {h : Nat} (hp : s.phase = .ready) (hq : s.serving = some q)
    (hh : s.handle = .opened h) :
    exec .shutdown s =
      .next (answered q (response (opcodeByte .shutdown) (verdictStatus (nextVerdict s)) []) .halted
        (closeTransport s).2) := by
  rw [exec, execShutdown, serve_ready _ hp, onTransport_open _ (s := (takeRequest s).setPhase .busy) hh,
    answerClose_taken hq]

theorem commandWord_shutdown : commandWord .shutdown = 0x20000000 := by decide

theorem header_shutdown_ok : header (opcodeByte .shutdown) .ok = 0x20000000 := by decide

theorem header_shutdown_eTransport : header (opcodeByte .shutdown) .eTransport = 0x20000002 := by decide

/-- Settles O33: one close call, and the answer its verdict gives; HANDLE and PHASE do not depend on it. -/
theorem shutdownClosesAndHalts : Obligations.ShutdownClosesAndHalts := by
  intro s q h
  refine ⟨congrArg (· :: operandWords .shutdown) commandWord_shutdown, fun hp hq hh => ?_⟩
  rw [exec_shutdown_ready hp hq hh, closeTransport_eq]
  cases nextVerdict s with
  | ok => rw [verdictStatus, response, header_shutdown_ok]
  | error => rw [verdictStatus, response, header_shutdown_eTransport]

/-! ## A failed `open` -/

/-- With no move ahead, the block's turn in INIT is the reset sequence (R161). -/
theorem step_init (hp : s.phase = .init) (hm : s.moves = []) (hc : legalConfig s.cfg = true) :
    step s = .next (resetSequence s) := by
  simp [step, advance, hm, blockTurn, hp, hc]

theorem resetSequence_error (hv : nextVerdict s = .error) : resetSequence s = openFailed s := by
  rw [resetSequence, openTransport_error hv]
  rfl

/-- Settles O46: the reset sequence ends at the failed call, and FAILED answers before it looks at the message. -/
theorem failedOpenIsFatal : Obligations.FailedOpenIsFatal := by
  refine ⟨fun s hp hm hc hv => ?_, fun s q msg hp hq => serveMessage_failed msg hp hq⟩
  rw [step_init hp hm hc, resetSequence_error hv]
  rfl

/-! ## Runs -/

/-- Any machine's run of k + 1 steps that ends in a next state is a step and a run of k steps. -/
theorem run_succ_next {M : Host.Core} {s t : M.State} (h : M.run (k + 1) s = .next t) :
    ∃ u, M.step s = .next u ∧ M.run k u = .next t := by
  rw [Host.Core.run] at h
  split at h
  · exact ⟨_, ‹_›, h⟩
  · cases h
  · cases h

/-- The invariant holds after any number of steps. -/
theorem SafeState.run (hs : SafeState s) (h : core.run k s = .next t) : SafeState t := by
  induction k generalizing s with
  | zero =>
    cases h
    exact hs
  | succ k ih =>
    obtain ⟨u, hstep, hrun⟩ := run_succ_next (M := core) h
    exact ih (everyStepKeepsSafety s u hs hstep) hrun

/-! ## `Close` in TRACE -/

/-- The `Close` entries of TRACE. -/
def closeEntries (cs : List TransportCall) : List TransportCall :=
  cs.filter fun c => c = .close .ok ∨ c = .close .error

theorem closeEntries_append (cs ds : List TransportCall) :
    closeEntries (cs ++ ds) = closeEntries cs ++ closeEntries ds :=
  List.filter_append _ _

theorem closeEntries_opening (busId deviceId hz : Nat) (v : Verdict) (cs : List TransportCall) :
    closeEntries (.openBus busId deviceId v :: .setClock hz :: cs) = closeEntries cs := rfl

theorem closeEntries_frames {frames : List TransportCall} (h : ∀ c ∈ frames, isTx c = true) :
    closeEntries frames = [] := by
  refine List.filter_eq_nil_iff.2 fun c hc => ?_
  have htx := h c hc
  cases c <;> simp [isTx] at htx ⊢

/-- BUSY is no phase between steps (R63). -/
theorem not_traceShape_busy (hp : s.phase = .busy) : ¬ traceShape s := by
  simp [traceShape, hp]

/-- R141. Only SHUTDOWN closes, and HALTED makes no more calls. -/
theorem length_closeEntries_le_one (h : traceShape s) : (closeEntries s.trace).length ≤ 1 := by
  cases hp : s.phase with
  | init => simp [(traceShape_init hp).1 h, closeEntries]
  | ready =>
    obtain ⟨frames, hframes, htrace⟩ := (traceShape_ready hp).1 h
    simp [htrace, closeEntries_opening, closeEntries_frames hframes]
  | busy => exact absurd h (not_traceShape_busy hp)
  | failed => simp [(traceShape_failed hp).1 h, closeEntries]
  | halted =>
    obtain ⟨frames, v, hframes, htrace⟩ := (traceShape_halted hp).1 h
    rw [htrace, closeEntries_opening, closeEntries_append, closeEntries_frames hframes, List.nil_append]
    exact List.length_filter_le _ _

/-- Where there is a `Close`, the first call was a successful `open`: INIT has made no call and FAILED only the one that
failed. -/
theorem trace_eq_open_cons_of_close_mem {v : Verdict} (h : traceShape s) (hv : .close v ∈ s.trace) :
    ∃ rest, s.trace = .openBus s.cfg.busId s.cfg.deviceId .ok :: rest := by
  cases hp : s.phase with
  | init => simp [(traceShape_init hp).1 h] at hv
  | ready =>
    obtain ⟨frames, -, htrace⟩ := (traceShape_ready hp).1 h
    exact ⟨_, htrace⟩
  | busy => exact absurd h (not_traceShape_busy hp)
  | failed => simp [(traceShape_failed hp).1 h] at hv
  | halted =>
    obtain ⟨frames, w, -, htrace⟩ := (traceShape_halted hp).1 h
    exact ⟨_, htrace⟩

theorem open_mem_before_close {before after : List TransportCall} {v : Verdict} (h : traceShape s)
    (htrace : s.trace = before ++ .close v :: after) :
    .openBus s.cfg.busId s.cfg.deviceId .ok ∈ before := by
  obtain ⟨rest, hopen⟩ := trace_eq_open_cons_of_close_mem (v := v) h (by simp [htrace])
  rw [htrace] at hopen
  cases before with
  | nil => cases hopen
  | cons c before =>
    rw [(List.cons.inj hopen).1]
    exact List.mem_cons_self

/-- Settles O60: the invariant holds at the end of the run, and with it the shape of TRACE in each phase. -/
theorem closeHappensAtMostOnce : Obligations.CloseHappensAtMostOnce := by
  intro s t k hs h
  have hshape : traceShape t := (hs.run h).traced
  exact ⟨length_closeEntries_le_one hshape, fun _ _ _ htrace => open_mem_before_close hshape htrace⟩

end Sys2Proof.Machine
end

section
/-! PROOFS. Errors (spec/60_exceptions.md R147, R149, R160): what FAILED and HALTED answer and leave alone, what an error
answer leaves committed, and that a safe state neither faults nor leaves the request it turns to unanswered. -/

namespace Sys2Proof.Machine

variable {s t : State} {q k : Nat} {op : Byte}

/-! ## FAILED and HALTED -/

/-- Settles O35: every request is the service procedure around its own rule, which these two phases do not run. -/
theorem failedAndHaltedAnswerEveryRequest : Obligations.FailedAndHaltedAnswerEveryRequest := by
  intro s q i hq
  obtain ⟨body, hexec⟩ := exec_eq_serve i
  refine ⟨fun hp => ?_, fun hp => ?_⟩
  · rw [hexec, serve_failed body hp hq, response, header_eq_append]
    rfl
  · rw [hexec, serve_halted body hp hq, response, header_eq_append]
    rfl

theorem Service.eq_answered (h : Service q s t) (hp : s.phase = .failed ∨ s.phase = .halted) :
    ∃ reply, t = answered q reply s.phase s := by
  cases h with
  | refuses _ hr => exact ⟨_, rfl⟩
  | runs hready hu hr => simp [hready] at hp
  | closes hready hr => simp [hready] at hp

/-- Settles O55: without a reset, a step from FAILED or HALTED moves slots, or answers a request and does nothing else. -/
theorem failedAndHaltedAreFinal : Obligations.FailedAndHaltedAreFinal := by
  intro s t hp hreset h
  rcases step_cases h with ⟨c, ms, hm, -, -⟩ | ⟨q, msg, ms, -, -, -, rfl⟩ | ⟨q, ms, -, rfl⟩ |
    ⟨pick, ms, -, ⟨hinit, -, -⟩ | ⟨-, hserve⟩⟩
  · exact absurd hm (hreset c ms)
  · exact ⟨rfl, rfl, rfl, rfl, rfl, rfl⟩
  · exact ⟨rfl, rfl, rfl, rfl, rfl, rfl⟩
  · simp [hinit] at hp
  · rcases serveNext_service (s := s.setMoves ms) pick (.inr hp) hserve with rfl | ⟨q, u, hu, hservice⟩
    · exact ⟨rfl, rfl, rfl, rfl, rfl, rfl⟩
    · have hpu : u.phase = .failed ∨ u.phase = .halted := by rcases hu with rfl | rfl <;> exact hp
      obtain ⟨reply, rfl⟩ := hservice.eq_answered hpu
      rcases hu with rfl | rfl <;> exact ⟨rfl, rfl, rfl, rfl, rfl, rfl⟩

/-! ## COMMITTED after an error answer -/

theorem slotAt_of_slots_set {l : List Slot} {x : Slot} (hslots : t.slots = l.set q x) (hlt : q < l.length) :
    slotAt q t = x :=
  slotAt_of_getElem? (hslots ▸ List.getElem?_set_self hlt)

theorem statusByte_injective : Function.Injective statusByte := by
  intro st st' h
  revert h
  cases st <;> cases st' <;> decide

/-- R91: a response shows its STATUS. -/
theorem status_eq_of_response_eq {op' : Byte} {st st' : Status} {ws ws' : List Word}
    (h : response op st ws = response op' st' ws') : st = st' := by
  obtain ⟨hheader, -⟩ := List.cons.inj h
  obtain ⟨-, -, hst⟩ := headerHasOpcodeAndStatus op st
  obtain ⟨-, -, hst'⟩ := headerHasOpcodeAndStatus op' st'
  exact statusByte_injective (hst.symm.trans ((congrArg _ hheader).trans hst'))

/-- COMMITTED is in `t` what it is in `s`, unless requester q has been answered with STATUS = OK. -/
def CommitsOnlyWithOk (q : Nat) (s t : State) : Prop :=
  t.committed = s.committed ∨ ∃ op ws, (slotAt q t).reply = some (response op .ok ws)

/-- R125 to R127: the verdict by which a transaction commits is the one it is answered with. -/
theorem commitsOnlyWithOk_transaction (new : StripState) (hlt : q < s.slots.length) :
    CommitsOnlyWithOk q s (answeredVerdict q op (transaction new s)) := by
  cases hv : nextVerdict s with
  | ok =>
    rw [transaction_ok new hv]
    have hslot := slotAt_of_slots_set (t := answeredVerdict q op (.ok, _)) (l := s.slots) rfl hlt
    exact .inr ⟨op, [], congrArg Slot.reply hslot⟩
  | error =>
    rw [transaction_error new hv]
    exact .inl rfl

/-- Of the requests but SWEEP, SET_ALL and SET_ONE alone make a transaction, and each makes at most one. -/
theorem exec_commitsOnlyWithOk {i : Instr} (hp : s.phase = .ready) (hq : s.serving = some q)
    (hlt : q < s.slots.length) (hi : ∀ b d, i ≠ .sweep b d) (h : exec i s = .next t) :
    CommitsOnlyWithOk q s t := by
  cases i with
  | encByte v =>
    rw [exec, execEncByte, serve_ready _ hp] at h
    cases h
    exact .inl rfl
  | encPixel r g b =>
    rw [exec, execEncPixel, serve_ready _ hp] at h
    cases h
    exact .inl rfl
  | setAll r g b =>
    rw [exec_setAll_ready hp hq] at h
    rw [onTransport_next h]
    exact commitsOnlyWithOk_transaction _ hlt
  | setOne index r g b =>
    by_cases hindex : indexValid s.cfg.n index = true
    · rw [exec_setOne_valid hp hq hindex] at h
      rw [onTransport_next h]
      exact commitsOnlyWithOk_transaction _ hlt
    · rw [exec_setOne_invalid hp hq hindex] at h
      cases h
      exact .inl rfl
  | getState =>
    rw [exec_getState_ready hp hq] at h
    cases h
    exact .inl rfl
  | sweep brightness delayUs => exact absurd rfl (hi brightness delayUs)
  | shutdown =>
    rw [exec, execShutdown, serve_ready _ hp] at h
    rw [onTransport_next h]
    exact .inl rfl

/-- No request's rule runs outside READY. -/
theorem serveMessage_committed_of_not_ready {msg : Message} (hp : s.phase ≠ .ready)
    (h : serveMessage msg s = .next t) : t.committed = s.committed := by
  obtain ⟨op, body, hserve⟩ := serveMessage_eq_serve msg
  rw [hserve, serve] at h
  split at h
  · cases h
    rfl
  · cases h
    rfl
  · exact absurd ‹_› hp
  · cases h
    rfl
  · cases h
    rfl

theorem serveMessage_commitsOnlyWithOk {msg : Message} (hq : s.serving = some q) (hlt : q < s.slots.length)
    (hmsg : ∀ b d, decode msg ≠ .ok (.sweep b d)) (h : serveMessage msg s = .next t) :
    CommitsOnlyWithOk q s t := by
  by_cases hp : s.phase = .ready
  · cases hd : decode msg with
    | ok i =>
      rw [serveMessage_decoded hd] at h
      exact exec_commitsOnlyWithOk hp hq hlt (fun b d hi => hmsg b d (hi ▸ hd)) h
    | error e =>
      rw [serveMessage_malformed hp hq ((decodeRejectsExactlyTheMalformed msg).1 ⟨e, hd⟩)] at h
      cases h
      exact .inl rfl
  · exact .inl (serveMessage_committed_of_not_ready hp h)

/-- Settles O39: an answer that is no OK is not the one a commit is answered with. -/
theorem errorAnswersKeepCommitted : Obligations.ErrorAnswersKeepCommitted := by
  intro s t q msg op st ws hq hlt h hreply hst hmsg
  rcases serveMessage_commitsOnlyWithOk hq hlt hmsg h with hkept | ⟨op', ws', hok⟩
  · exact hkept
  · exact absurd (status_eq_of_response_eq (Option.some.inj (hreply.symm.trans hok))) hst

/-! ## Stops -/

/-- The service procedure stops only where the request's own rule does. -/
theorem serve_next {body : State → Host.Outcome State Fault Refusal}
    (hbody : s.phase = .ready → ∃ t, body ((takeRequest s).setPhase .busy) = .next t) :
    ∃ t, serve op body s = .next t := by
  unfold serve
  split
  · exact ⟨_, rfl⟩
  · exact ⟨_, rfl⟩
  · exact hbody ‹_›
  · exact ⟨_, rfl⟩
  · exact ⟨_, rfl⟩

theorem onTransport_next_of_opened {calls : Bool} {k : State → State} (hh : ∃ h, s.handle = .opened h) :
    ∃ t, onTransport calls k s = .next t :=
  hh.elim fun _ hh => ⟨_, onTransport_open k hh⟩

/-- R153: where HANDLE is open in READY, every request has its step. -/
theorem exec_next (i : Instr) (hopen : s.phase = .ready → ∃ h, s.handle = .opened h) :
    ∃ t, exec i s = .next t := by
  cases i with
  | encByte v =>
    rw [exec, execEncByte]
    exact serve_next fun _ => ⟨_, rfl⟩
  | encPixel r g b =>
    rw [exec, execEncPixel]
    exact serve_next fun _ => ⟨_, rfl⟩
  | setAll r g b => exact serve_next fun hp => onTransport_next_of_opened (hopen hp)
  | setOne index r g b =>
    rw [exec, execSetOne]
    refine serve_next fun hp => ?_
    split
    · exact onTransport_next_of_opened (hopen hp)
    · exact ⟨_, rfl⟩
  | getState =>
    rw [exec, execGetState]
    exact serve_next fun _ => ⟨_, rfl⟩
  | sweep brightness delayUs => exact serve_next fun hp => onTransport_next_of_opened (hopen hp)
  | shutdown => exact serve_next fun hp => onTransport_next_of_opened (hopen hp)

theorem serveMessage_next (msg : Message) (hopen : s.phase = .ready → ∃ h, s.handle = .opened h) :
    ∃ t, serveMessage msg s = .next t := by
  unfold serveMessage
  split
  · exact exec_next _ hopen
  · exact serve_next fun _ => ⟨_, rfl⟩

theorem serveNext_next (pick : Option Nat) (hopen : s.phase = .ready → ∃ h, s.handle = .opened h) :
    ∃ t, serveNext pick s = .next t := by
  unfold serveNext
  split
  · exact ⟨_, rfl⟩
  · rename_i q u ha
    rcases (arbiter_cases pick ha).2 with rfl | rfl <;> exact serveMessage_next _ hopen

theorem SafeState.phase_ne_busy (hs : SafeState s) : s.phase ≠ .busy :=
  fun hp => not_traceShape_busy hp hs.traced

/-- R30: at rest the block is in INIT, or in a phase in which it takes requests. -/
theorem SafeState.takes_requests (hs : SafeState s) (hinit : s.phase ≠ .init) :
    s.phase = .ready ∨ s.phase = .failed ∨ s.phase = .halted := by
  cases hp : s.phase with
  | init => exact absurd hp hinit
  | ready => exact .inl rfl
  | busy => exact absurd hp hs.phase_ne_busy
  | failed => exact .inr (.inl rfl)
  | halted => exact .inr (.inr rfl)

/-- In a safe state the block's turn has its step: the configuration is legal, BUSY is not met, and HANDLE is open in
READY. -/
theorem SafeState.blockTurn_next (hs : SafeState s) (pick : Option Nat) : ∃ t, blockTurn pick s = .next t := by
  unfold blockTurn
  split
  · exact ⟨_, if_pos hs.legal⟩
  · exact absurd ‹_› hs.phase_ne_busy
  · exact serveNext_next pick hs.handleOpen.2
  · exact serveNext_next pick hs.handleOpen.2
  · exact serveNext_next pick hs.handleOpen.2

/-- A move of the outside world has its step or is refused, and the block's turn has its step. -/
theorem SafeState.performMove_ne_fault (hs : SafeState s) (m : Move) (f : Fault) : performMove m s ≠ .fault f := by
  cases m with
  | submit q msg =>
    rw [performMove, submit]
    split_ifs <;> nofun
  | collect q =>
    rw [performMove, collect]
    split_ifs <;> nofun
  | reset c =>
    rw [performMove, applyReset]
    split_ifs <;> nofun
  | block pick =>
    obtain ⟨t, ht⟩ := hs.blockTurn_next pick
    rw [performMove, ht]
    nofun

theorem SafeState.step_ne_fault (hs : SafeState s) (f : Fault) : step s ≠ .fault f := by
  cases hm : s.moves with
  | nil =>
    rw [step_block none [] (.inr ⟨hm, rfl, rfl⟩)]
    exact (hs.setMoves []).performMove_ne_fault (.block none) f
  | cons m ms =>
    rw [step_move hm]
    exact (hs.setMoves ms).performMove_ne_fault m f

/-- Any machine's run of k + 1 steps that ends in a fault faults in its first step, or in the k steps after it. -/
theorem run_succ_fault {M : Host.Core} {s : M.State} {f : M.Fault} (h : M.run (k + 1) s = .fault f) :
    M.step s = .fault f ∨ ∃ u, M.step s = .next u ∧ M.run k u = .fault f := by
  rw [Host.Core.run] at h
  split at h
  · exact .inr ⟨_, ‹_›, h⟩
  · cases h
    exact .inl ‹_›
  · cases h

/-- Settles O58: the invariant holds before each step of the run, and where it holds no step faults. -/
theorem safeRunsNeverFault : Obligations.SafeRunsNeverFault := by
  intro s hs k f h
  induction k generalizing s with
  | zero => cases h
  | succ k ih =>
    rcases run_succ_fault (M := core) h with hstep | ⟨u, hstep, hrun⟩
    · exact hs.step_ne_fault f hstep
    · exact ih u (everyStepKeepsSafety s u hs hstep) hrun

/-! ## The answer in one turn -/

/-- R147: in each phase in which the block takes a message, its requester's slots are left with the answer alone. -/
theorem serveMessage_answers {msg : Message} (hp : s.phase = .ready ∨ s.phase = .failed ∨ s.phase = .halted)
    (hq : s.serving = some q) (h : serveMessage msg s = .next t) :
    ∃ st ws, t.slots = s.slots.set q ⟨none, some (response (messageOpcode msg) st ws)⟩ := by
  obtain ⟨body, hserve⟩ := serveMessage_eq_serve_messageOpcode msg
  rcases hp with hp | hp | hp
  · by_cases hm : malformed msg
    · rw [serveMessage_malformed hp hq hm, ← response_eIllegal] at h
      cases h
      exact ⟨.eIllegal, [], rfl⟩
    · obtain ⟨-, -, -, hready⟩ := serviceChecksInOrder s q msg hq
      obtain ⟨i, -, hexec, hanswers⟩ := hready hp hm
      exact (hanswers t (hexec ▸ h)).2
  · rw [hserve, serve_failed body hp hq] at h
    cases h
    exact ⟨.eInit, [], rfl⟩
  · rw [hserve, serve_halted body hp hq] at h
    cases h
    exact ⟨.eHalted, [], rfl⟩

theorem lt_length_of_mem_pendingRequesters (h : q ∈ pendingRequesters s) : q < s.slots.length :=
  List.mem_range.1 (List.mem_filter.1 h).1

/-- Settles O59: the named request is taken, its service has a step since the state is safe, and that step answers it. -/
theorem pendingRequestIsAnsweredInOneTurn : Obligations.PendingRequestIsAnsweredInOneTurn := by
  intro s q msg ms hs hinit hm hmsg
  have hp := hs.takes_requests hinit
  have hmem : q ∈ pendingRequesters s := mem_pendingRequesters.2 (by rw [hmsg]; rfl)
  obtain ⟨hstep, -, -⟩ := stepRunsTheDecodedRequest s (s.setMoves ms) (some q) ms q msg (.inl hm) hp
    (arbiter_pick (s := s.setMoves ms) hmem) hmsg
  obtain ⟨t, ht⟩ := serveMessage_next (s := (s.setMoves ms).setServing (some q)) msg hs.handleOpen.2
  obtain ⟨st, ws, hslots⟩ := serveMessage_answers (s := (s.setMoves ms).setServing (some q)) hp rfl ht
  exact ⟨t, st, ws, hstep.trans ht, slotAt_of_slots_set hslots (lt_length_of_mem_pendingRequesters hmem)⟩

end Sys2Proof.Machine
end

section
/-! PROOFS. Reset and the reset sequence without an error from `open` (spec/70_reset_and_hazards.md R161, R162,
spec/44_lifecycle.md R137, R138): the state both kinds of boot go on from is named once, and a boot sweep is a sweep of that
state. -/

namespace Sys2Proof.Machine

variable {s : State} {k : Nat}

/-! ## The reset state -/

theorem resetWith_slots_getElem? {c : Config} {q : Nat} (hq : q < c.nreq) :
    (State.resetWith c).slots[q]? = some ⟨none, none⟩ := by
  rw [State.resetWith, List.getElem?_replicate, if_pos hq, Slot.empty]

/-- Settles O44: the fields are those of the table; only the slots depend on NREQ. -/
theorem resetValues : Obligations.ResetValues :=
  ⟨fun _ => ⟨rfl, rfl, rfl, rfl, rfl, rfl, rfl, rfl, fun _ hq => resetWith_slots_getElem? hq⟩, rfl, rfl⟩

/-! ## After a successful `open` -/

/-- The block, still in INIT, once `open` has returned Ok with the handle h and `set_clock_rate` has been called (R137,
R138): what BootSweepRunsBeforeReady calls u. -/
def clocked (h : Nat) (s : State) : State :=
  { dropVerdict s with
    handle := .opened h
    draws := (dropVerdict s).draws + 1
    trace := s.trace ++ [.openBus s.cfg.busId s.cfg.deviceId .ok, .setClock s.cfg.clkHz] }

theorem setClockRate_opened (h : Nat) (s : State) :
    setClockRate { dropVerdict s with
        handle := .opened h
        draws := (dropVerdict s).draws + 1
        trace := s.trace ++ [.openBus s.cfg.busId s.cfg.deviceId .ok] } = clocked h s := by
  simp [setClockRate, State.record, clocked]

/-- With no move ahead and the verdict Ok for `open`, a step in INIT goes to READY from the boot sweep. -/
theorem step_init_ok (hp : s.phase = .init) (hm : s.moves = []) (hc : legalConfig s.cfg = true)
    (hv : nextVerdict s = .ok) : ∃ h, step s = .next ((bootSweep (clocked h s)).setPhase .ready) := by
  obtain ⟨h, ho⟩ := openTransport_ok hv
  refine ⟨h, ?_⟩
  rw [step_init hp hm hc, resetSequence, ho, ← setClockRate_opened]

/-- Settles O47: the boot sweep is off, so nothing stands between `set_clock_rate` and READY. -/
theorem resetSequenceOpensAndSetsTheClock : Obligations.ResetSequenceOpensAndSetsTheClock := by
  intro s hp hm hc hv hoff
  obtain ⟨h, hstep⟩ := step_init_ok hp hm hc hv
  refine ⟨h, (dropVerdict s).draws + 1, ?_⟩
  rw [hstep, bootSweep_off (s := clocked h s) hoff]
  rfl

/-! ## With a boot sweep -/

theorem bootSweep_ok (hon : s.cfg.bootSweep = true) (hv : ∀ j, j < s.cfg.n → upcomingVerdict s j = .ok) :
    bootSweep s = swept (BitVec.ofNat 8 s.cfg.defaultBrightness) s.cfg.sweepDelayUs s.cfg.n s := by
  rw [bootSweep_on hon, runSweep_ok hv]

theorem bootSweep_error (hon : s.cfg.bootSweep = true) (hk : k < s.cfg.n)
    (hv : ∀ j, j < k → upcomingVerdict s j = .ok) (he : upcomingVerdict s k = .error) :
    bootSweep s = sweepFailed (BitVec.ofNat 8 s.cfg.defaultBrightness) s.cfg.sweepDelayUs k s := by
  rw [bootSweep_on hon, runSweep_error hk hv he]

/-- Settles O48: the sweep's result, whatever its verdict, goes to READY. -/
theorem bootSweepRunsBeforeReady : Obligations.BootSweepRunsBeforeReady := by
  intro s hp hm hc hv hon
  obtain ⟨h, hstep⟩ := step_init_ok hp hm hc hv
  refine ⟨h, ?_⟩
  rintro u b (rfl : u = clocked h s) rfl
  rw [hstep]
  refine ⟨fun hok => ?_, fun k hk hok he => ?_⟩
  · rw [bootSweep_ok (s := clocked h s) hon hok]
    rfl
  · rw [bootSweep_error (s := clocked h s) hon hk hok he]
    rfl

end Sys2Proof.Machine
end

section
/-! PROOFS. A submission with and without a step (spec/10_state.md R50, spec/70_reset_and_hazards.md R168). -/

namespace Sys2Proof.Machine

variable {s : State} {q : Nat} {x : Slot}

theorem submit_of_slot (msg : Message) (h : s.slots[q]? = some x) :
    submit q msg s =
      if x = Slot.empty then .next (s.setSlot q ⟨some msg, none⟩) else .refused .submissionHasNoStep := by
  have hq : q < s.slots.length := (List.getElem?_eq_some_iff.1 h).1
  rw [submit, if_pos hq, slotAt_of_getElem? h]

/-- Settles O51: the move is made on the state without it, whose slots are the same. -/
theorem submissionNeedsEmptySlots : Obligations.SubmissionNeedsEmptySlots := by
  intro s q msg ms x hm hx
  rw [step_move hm]
  exact submit_of_slot (s := s.setMoves ms) msg hx

end Sys2Proof.Machine
end

section
/-! PROOFS. Timing (spec/70_reset_and_hazards.md R174, R175): a duration is a number of serial clock periods, and that of a
frame is the number of its line levels. -/

namespace Sys2Proof.Machine

theorem mul_bitSeconds (a : Rat) (clkHz : Nat) : a * bitSeconds clkHz = a / clkHz :=
  mul_one_div a (clkHz : Rat)

/-- The symbols `110` and `100` of R101. -/
theorem highPeriods_encBit (b : Bool) : highPeriods (encBit b) = if b then 2 else 1 := by
  cases b <;> decide

theorem highSeconds_eq (clkHz : Nat) (b : Bool) : highSeconds clkHz b = (if b then 2 else 1) / (clkHz : Rat) := by
  rw [highSeconds, highPeriods_encBit, mul_bitSeconds]
  push_cast
  rfl

/-- Settles O25: three clock periods a symbol, of which the line is high for the 1 bits. -/
theorem symbolTimes : Obligations.SymbolTimes :=
  fun clkHz => ⟨mul_bitSeconds 3 clkHz, highSeconds_eq clkHz true, highSeconds_eq clkHz false⟩

/-- R57: each byte puts its 8 bits on the line. -/
theorem length_lineLevels (bytes : List Byte) : (lineLevels bytes).length = 8 * bytes.length := by
  simp [lineLevels, bitsMsb_length, Nat.mul_comm]

/-- Settles O26: the frame has P + 9N bytes (R117), hence 8 (P + 9N) levels. -/
theorem frameTimeIsItsLevels : Obligations.FrameTimeIsItsLevels := by
  intro c s hs
  rw [length_lineLevels, length_encFrame, hs, frameSeconds]
  push_cast
  rfl

end Sys2Proof.Machine
end

section
/-! PROOFS. Where a request is not served: PHASE = INIT or BUSY (spec/10_state.md R31), and READY with HANDLE = Closed
(log 10). -/

namespace Sys2Proof.Machine

variable {s : State}

/-- Settles O36: every request is the service procedure around its own rule, and takes none in these two phases. -/
theorem requestsWaitInInitAndBusy : Obligations.RequestsWaitInInitAndBusy := by
  intro s i hp
  obtain ⟨body, hexec⟩ := exec_eq_serve i
  rw [hexec, serve_waits body hp]

theorem onTransport_closed (k : State → State) (hh : s.handle = .closed) :
    onTransport true k s = .fault .transportClosed := by
  simp only [onTransport, hh]

/-- Taking the request leaves HANDLE as it is, so a rule that begins with a transport call stops. -/
theorem onTransport_closed_taken (k : State → State) (hh : s.handle = .closed) :
    onTransport true k ((takeRequest s).setPhase .busy) = .fault .transportClosed :=
  onTransport_closed k hh

/-- Settles O37: SET_ALL and SHUTDOWN call the transport whatever N is, SET_ONE past its index check, and SWEEP if it
has a step to make. -/
theorem transportRequestsNeedAnOpenHandle : Obligations.TransportRequestsNeedAnOpenHandle := by
  intro s hp hh
  refine ⟨fun r g b => ?setAll, fun k r g b hk => ?setOne, fun brightness delayUs hn => ?sweep, ?shutdown⟩
  case setAll => rw [exec, execSetAll, serve_ready _ hp, onTransport_closed_taken _ hh]
  case setOne =>
    have hvalid : indexValid s.cfg.n (k : Int) = true := indexValid_iff.2 (by omega)
    rw [exec, execSetOne, serve_ready _ hp]
    exact (if_pos hvalid).trans (onTransport_closed_taken _ hh)
  case sweep =>
    have hcalls : (((takeRequest s).setPhase .busy).cfg.n != 0) = true := bne_iff_ne.2 hn.ne'
    rw [exec, execSweep, serve_ready _ hp, hcalls, onTransport_closed_taken _ hh]
  case shutdown => rw [exec, execShutdown, serve_ready _ hp, onTransport_closed_taken _ hh]

end Sys2Proof.Machine
end

section
/-! PROOFS. Reset as a move of the outside world (spec/70_reset_and_hazards.md R165, spec/44_lifecycle.md R142). -/

namespace Sys2Proof.Machine

/-- Settles O45: the move is made on the state without it, and of that state a reset reads the fields that are not the
block's. -/
theorem resetKeepsNothing : Obligations.ResetKeepsNothing := by
  intro s c ms hm
  rw [step_move hm, performMove, applyReset]
  rfl

end Sys2Proof.Machine
end
